-- ==== Sys2Proof/Word.lean ====
section
/-! DEFINITION. The words the manual treats as bits, and nothing else. -/

namespace Sys2Proof

/-- One byte on a wire or on a control link. -/
abbrev Byte := BitVec 8

/-- A 48-bit station or group address; the first byte on the wire is the most significant (R15). -/
abbrev Addr := BitVec 48

/-- A 16-bit sequence number of the lane trailer; distances are modulo 65,536. -/
abbrev SeqNo := BitVec 16

/-- A value of the station clock's tick counter, 100 ns a tick, modulo 2^32. -/
abbrev Tick := BitVec 32

/-- A 32-bit wrapping counter (chapter 0, Counters). -/
abbrev Count := BitVec 32

/-- A 16-bit event set: the kind numbered n under R167 stands at bit n. -/
abbrev EventSet := BitVec 16

end Sys2Proof
end

