-- ==== Sys2Proof/Config.lean ====
section
/-! DEFINITION. The constants the manual fixes: sizes of tables and queues, fixed addresses and codes. -/

namespace Sys2Proof.Config

/-- The origin table holds at most 256 records (R33). -/
def maxOrigins : Nat := 256
/-- The delivery table holds at most 64 group entries (R132). -/
def maxGroups : Nat := 64
/-- The open-pair list holds at most 8 entries (R67). -/
def maxPairs : Nat := 8
/-- A line port's protection queue holds at most 48 frames (R127). -/
def lineProtMax : Nat := 48
/-- A line port's background queue holds at most 96 frames (R127). -/
def lineBackMax : Nat := 96
/-- A bay port's protection queue holds at most 64 frames (R139). -/
def bayProtMax : Nat := 64
/-- A bay port's background queue holds at most 128 frames (R139). -/
def bayBackMax : Nat := 128
/-- A staging area holds at most 32 items (R148). -/
def maxStaged : Nat := 32
/-- READ CHANGES returns at most 16 indices (R170). -/
def maxChangesRead : Nat := 16
/-- A control link carries at most 64 argument bytes (R14). -/
def maxArgs : Nat := 64

/-- The shortest frame a port takes in, before its FCS (R1). -/
def minFrame : Nat := 60
/-- The longest frame a port takes in, before its FCS (R1). -/
def maxFrame : Nat := 1522
/-- The largest span that still leaves room for a trailer (R23). -/
def maxSpan : Nat := 1514

/-- The roll-call group address 0B-47-50-00-00-01 (chapter 1, 1.6). -/
def rollCallGroup : Addr := 0x0B4750000001#48
/-- The broadcast address (R17). -/
def broadcast : Addr := 0xFFFFFFFFFFFF#48

/-- The trailer marker B5h 2Eh 71h (chapter 1, 1.2). -/
def marker : List Byte := [0xB5#8, 0x2E#8, 0x71#8]
/-- The trailer version (chapter 1, 1.2). -/
def trailerVersion : Nat := 2
/-- The frame type of a roll-call, 9A73h (chapter 1, 1.6). -/
def rollCallType : List Byte := [0x9A#8, 0x73#8]
/-- The device code that IDENTIFY returns, 0420h (R162). -/
def deviceCode : Nat := 0x0420

/-- The largest magnitude of a sample, in ticks (R82). -/
def maxSample : Int := 32767
/-- The largest magnitude of a held skew value, in sixteenths of a tick (R79). -/
def maxSkew : Int := 524272

/-- The hold time 255 means a hold timer that never expires (R96). -/
def holdNever : Nat := 255

end Sys2Proof.Config
end

