-- ==== Sys2Proof/Syntax.lean ====
section
/-! DEFINITION. The commands: one constructor for each row of spec/opcode_table.json, with what the
row's rules make it depend on. -/

namespace Sys2Proof

/-- A lane, and the line port that faces it. In skew and misses the lane is always the port (chapter 0, Skew). -/
inductive Lane where
  | a
  | b
deriving DecidableEq, Repr

/-- A bay master, with the bay port and the control link of the same number (chapter 0, Masters and links). -/
inductive Master where
  | m1
  | m2
deriving DecidableEq, Repr

/-- A frame as a port receives it: the bytes before the FCS, and the FCS as a number (log 4). -/
structure RxFrame where
  data : List Byte
  fcs  : BitVec 32
deriving DecidableEq, Repr

/-- What the four PHYs report when start-up has the ports read them (R174 step 4). -/
structure Phys where
  lineA : Bool
  lineB : Bool
  bay1  : Bool
  bay2  : Bool
deriving DecidableEq, Repr

/-- The arguments of one select period (R14): the argument bytes of a command whose length byte is at
most 64, or a length byte above 64, at which the command is taken without arguments. -/
inductive Args where
  | taken    (bytes : List Byte)
  | overlong (length : Byte)
deriving DecidableEq, Repr

/-- The rows of spec/opcode_table.json. A control-link command names its link and carries its arguments. -/
inductive Instr where
  | powerOn (phys : Phys)
  | resetPin (phys : Phys)
  | startQuietEnd
  | lineFrameReceive (lane : Lane) (frame : RxFrame)
  | bayFrameReceive (bay : Master) (frame : RxFrame)
  | bayLinkUp (bay : Master)
  | bayLinkDown (bay : Master)
  | lineLinkLoss (lane : Lane)
  | glitch (lane : Lane)
  | linkFailExpiry (lane : Lane)
  | lineLinkUp (lane : Lane)
  | settleExpiry (lane : Lane)
  | probeLimitExpiry (lane : Lane)
  | rollCallTimerExpiry
  | lineTransmitStart (lane : Lane)
  | lineTransmitDone (lane : Lane)
  | bayTransmitStart (bay : Master)
  | bayTransmitDone (bay : Master)
  | pacingTimerExpiry (bay : Master)
  | pairExpiry (index : Nat)
  | silenceExpiry (index : Nat)
  | forgetExpiry (index : Nat)
  | holdExpiry (index : Nat)
  | alertHoldExpiry
  | secondsTick
  | cutTransaction (link : Master) (received : List Byte)
  | unknownCommand (link : Master) (code : Byte) (args : Args)
  | identify (link : Master) (args : Args)
  | readOrigin (link : Master) (args : Args)
  | findOrigin (link : Master) (args : Args)
  | readGroup (link : Master) (args : Args)
  | readPort (link : Master) (args : Args)
  | readTime (link : Master) (args : Args)
  | stage (link : Master) (args : Args)
  | discardStaging (link : Master) (args : Args)
  | apply (link : Master) (args : Args)
  | applyTaken
  | readApplyResult (link : Master) (args : Args)
  | readEvents (link : Master) (args : Args)
  | ackEvents (link : Master) (args : Args)
  | setEventMask (link : Master) (args : Args)
  | readChanges (link : Master) (args : Args)
  | ackRestart (link : Master) (args : Args)
  | saveSet (link : Master) (args : Args)
  | saveCompletion (verified : Bool)
  | selectStartSet (link : Master) (args : Args)
  | restart (link : Master) (args : Args)
  | restartTakesEffect (phys : Phys)
deriving DecidableEq, Repr

/-- The command byte of a control-link row (R15); an unknown command carries its own. -/
def Instr.commandByte : Instr → Option Byte
  | .identify _ _ => some 0x01#8
  | .readOrigin _ _ => some 0x02#8
  | .findOrigin _ _ => some 0x03#8
  | .readGroup _ _ => some 0x04#8
  | .readPort _ _ => some 0x05#8
  | .readTime _ _ => some 0x06#8
  | .stage _ _ => some 0x07#8
  | .discardStaging _ _ => some 0x08#8
  | .apply _ _ => some 0x09#8
  | .readApplyResult _ _ => some 0x0A#8
  | .readEvents _ _ => some 0x0B#8
  | .ackEvents _ _ => some 0x0C#8
  | .setEventMask _ _ => some 0x0D#8
  | .readChanges _ _ => some 0x0E#8
  | .ackRestart _ _ => some 0x0F#8
  | .saveSet _ _ => some 0x10#8
  | .selectStartSet _ _ => some 0x11#8
  | .restart _ _ => some 0x12#8
  | .unknownCommand _ code _ => some code
  | .powerOn _ => none
  | .resetPin _ => none
  | .startQuietEnd => none
  | .lineFrameReceive _ _ => none
  | .bayFrameReceive _ _ => none
  | .bayLinkUp _ => none
  | .bayLinkDown _ => none
  | .lineLinkLoss _ => none
  | .glitch _ => none
  | .linkFailExpiry _ => none
  | .lineLinkUp _ => none
  | .settleExpiry _ => none
  | .probeLimitExpiry _ => none
  | .rollCallTimerExpiry => none
  | .lineTransmitStart _ => none
  | .lineTransmitDone _ => none
  | .bayTransmitStart _ => none
  | .bayTransmitDone _ => none
  | .pacingTimerExpiry _ => none
  | .pairExpiry _ => none
  | .silenceExpiry _ => none
  | .forgetExpiry _ => none
  | .holdExpiry _ => none
  | .alertHoldExpiry => none
  | .secondsTick => none
  | .cutTransaction _ _ => none
  | .applyTaken => none
  | .saveCompletion _ => none
  | .restartTakesEffect _ => none

/-- The arguments of a control-link row. -/
def Instr.args : Instr → Option Args
  | .identify _ x => some x
  | .readOrigin _ x => some x
  | .findOrigin _ x => some x
  | .readGroup _ x => some x
  | .readPort _ x => some x
  | .readTime _ x => some x
  | .stage _ x => some x
  | .discardStaging _ x => some x
  | .apply _ x => some x
  | .readApplyResult _ x => some x
  | .readEvents _ x => some x
  | .ackEvents _ x => some x
  | .setEventMask _ x => some x
  | .readChanges _ x => some x
  | .ackRestart _ x => some x
  | .saveSet _ x => some x
  | .selectStartSet _ x => some x
  | .restart _ x => some x
  | .unknownCommand _ _ x => some x
  | .powerOn _ => none
  | .resetPin _ => none
  | .startQuietEnd => none
  | .lineFrameReceive _ _ => none
  | .bayFrameReceive _ _ => none
  | .bayLinkUp _ => none
  | .bayLinkDown _ => none
  | .lineLinkLoss _ => none
  | .glitch _ => none
  | .linkFailExpiry _ => none
  | .lineLinkUp _ => none
  | .settleExpiry _ => none
  | .probeLimitExpiry _ => none
  | .rollCallTimerExpiry => none
  | .lineTransmitStart _ => none
  | .lineTransmitDone _ => none
  | .bayTransmitStart _ => none
  | .bayTransmitDone _ => none
  | .pacingTimerExpiry _ => none
  | .pairExpiry _ => none
  | .silenceExpiry _ => none
  | .forgetExpiry _ => none
  | .holdExpiry _ => none
  | .alertHoldExpiry => none
  | .secondsTick => none
  | .cutTransaction _ _ => none
  | .applyTaken => none
  | .saveCompletion _ => none
  | .restartTakesEffect _ => none

end Sys2Proof
end

