-- ==== Sys2Proof/WellFormed.lean ====
section
/-! DEFINITION. Which commands can occur: operands that a control link, a select period or an event can carry. -/

namespace Sys2Proof

/-- Argument bytes as R14 frames them: at most 64 of them, or a length byte above 64. -/
def Args.wf : Args → Bool
  | .taken bytes => decide (bytes.length ≤ Config.maxArgs)
  | .overlong length => decide (Config.maxArgs < length.toNat)

/-- The command bytes R15 gives a meaning, 01h to 12h. -/
def knownCommand (code : Byte) : Bool :=
  decide (0x01 ≤ code.toNat) && decide (code.toNat ≤ 0x12)

/-- The bytes of a select period that ended before its command was taken (R160): at least one byte, and
not yet the last argument byte. -/
def isCut : List Byte → Bool
  | [] => false
  | [_] => true
  | _ :: n :: args => decide (n.toNat ≤ Config.maxArgs) && decide (args.length < n.toNat)

/-- The operands that an event of the table can have. -/
def Instr.wf (i : Instr) : Bool :=
  (match i.args with
   | some x => x.wf
   | none => true) &&
  (match i with
   | .unknownCommand _ code _ => !knownCommand code
   | .cutTransaction _ received => isCut received
   | .pairExpiry index => decide (index < Config.maxOrigins)
   | .silenceExpiry index => decide (index < Config.maxOrigins)
   | .forgetExpiry index => decide (index < Config.maxOrigins)
   | .holdExpiry index => decide (index < Config.maxOrigins)
   | _ => true)

end Sys2Proof
end

