-- ==== Sys2Proof/Machine/State.lean ====
section
/-! DEFINITION. Everything the manual gives the part to hold, as plain data, and its value after reset. -/

namespace Sys2Proof.Machine

/-! ## Containers -/

/-- One value for each line port. -/
structure PerLane (α : Type) where
  a : α
  b : α
deriving DecidableEq, Repr

/-- One value for each bay master, bay port or control link. -/
structure PerMaster (α : Type) where
  one : α
  two : α
deriving DecidableEq, Repr

/-- A timer: not running, or running with the length it was started with, in the unit of its setting.
A running timer keeps that length (R116, R118, R123, R124, R141, R143); when it expires is the sender's
to say (log 3). -/
abbrev Timer := Option Nat

/-! ## Names the manual gives to values (an enumerated field is coded in this order, R162) -/

/-- Line port states (R115). -/
inductive PortState where
  | down
  | settling
  | probing
  | confirmed
  | crossed
deriving DecidableEq, Repr

/-- The four classes of the trailer (R7), in the order of their codes. -/
inductive TrafficClass where
  | bulk
  | sample
  | trip
  | rollCall
deriving DecidableEq, Repr

/-- The classes a delivery table entry can have (R132), in the order of STAGE and READ GROUP. -/
inductive GroupClass where
  | trip
  | sample
  | bulk
deriving DecidableEq, Repr

/-- Baseline modes (R162). -/
inductive BaselineMode where
  | off
  | auto
  | manual
  | capture
deriving DecidableEq, Repr

/-- Skew levels (R93). -/
inductive Level where
  | steady
  | drift
  | excess
  | gross
deriving DecidableEq, Repr

/-- Directions of a deviation (R92): A-late, none, B-late. -/
inductive Direction where
  | aLate
  | neither
  | bLate
deriving DecidableEq, Repr

/-- Lane states of an origin (R75). -/
inductive LaneState where
  | paired
  | loneA
  | loneB
  | fragmented
  | silent
deriving DecidableEq, Repr

/-- The hysteresis band setting, 1/8 or 1/16 (R93). -/
inductive HysteresisBand where
  | eighth
  | sixteenth
deriving DecidableEq, Repr

/-- Unknown-group policy of a bay port (R133). -/
inductive GroupPolicy where
  | deliver
  | drop
deriving DecidableEq, Repr

/-- Bay alert states (R142). -/
inductive AlertState where
  | calm
  | alert
deriving DecidableEq, Repr

/-- The two egress queues of a port (R7). -/
inductive QueueKind where
  | protection
  | background
deriving DecidableEq, Repr

/-- The event kinds, numbered 0 to 10 in this order (R167). -/
inductive EventKind where
  | originChange
  | tableFull
  | lanePort
  | linkLost
  | crossed
  | alert
  | queueDrop
  | applyDone
  | saveDone
  | storeRejected
  | restartSeen
deriving DecidableEq, Repr

/-- Status bytes, 00h to 05h in this order (R15). -/
inductive Status where
  | ok
  | busy
  | full
  | badCommand
  | badLength
  | badIndex
deriving DecidableEq, Repr

/-- Reasons an apply is refused, numbered 0 to 7 in this order (R153, R162). -/
inductive RefusalReason where
  | notOwner
  | order
  | reference
  | referenced
  | noRoom
  | classConflict
  | groupFull
  | unknown
deriving DecidableEq, Repr

/-- The stored sets (R171). -/
inductive SetNo where
  | s0
  | s1
  | s2
deriving DecidableEq, Repr

/-- The two sets a master can write (R171). -/
inductive UserSlot where
  | u1
  | u2
deriving DecidableEq, Repr

/-! ## Ports -/

/-- A frame waiting in an egress queue: its class and its bytes before the FCS (R9, R22, R27). -/
structure Frame where
  cls  : TrafficClass
  data : List Byte
deriving DecidableEq, Repr

/-- The frame a port is transmitting: the queue it left, and all its bytes on the wire, FCS included
(R3, R9, R128, R140). -/
structure Sending where
  queue : QueueKind
  wire  : List Byte
deriving DecidableEq, Repr

/-- An assurance run (R120): a lane code, and a length 0..3; empty is no code and length 0. -/
structure AssuranceRun where
  code : Option Lane
  len  : Nat
deriving DecidableEq, Repr

/-- The counts of a line port (R131, R146). -/
structure LineCounts where
  rxError         : Count
  trailerMismatch : Count
  rollMalformed   : Count
  echo            : Count
  overflow        : Count
  proxySkipped    : Count
  notForBay       : Count
  assurance       : Count
  missUnavail     : Count
  shedTrip        : Count
  shedSample      : Count
  shedBulk        : Count
  shedRoll        : Count
  glitch          : Count
  flush           : Count
  txProt          : Count
  txBack          : Count
deriving DecidableEq, Repr

/-- A line port (R115 to R131). -/
structure LinePort where
  state       : PortState
  unconfirmed : Bool
  run         : AssuranceRun
  linkFail    : Timer
  settle      : Timer
  probe       : Timer
  laneUp      : Count
  prot        : List Frame
  back        : List Frame
  sending     : Option Sending
  cnt         : LineCounts
deriving DecidableEq, Repr

/-- The counts of a bay port (R32, R146). -/
structure BayCounts where
  rxError        : Count
  foreign        : Count
  oversize       : Count
  quiet          : Count
  shedLanes      : Count
  lost           : Count
  sentTrip       : Count
  sentSample     : Count
  sentBulk       : Count
  localRx        : Count
  flush          : Count
  unknownDropped : Count
  shedBay        : Count
  dropProt       : Count
  dropBack       : Count
  txProt         : Count
  txBack         : Count
deriving DecidableEq, Repr

/-- A bay port (R16 to R32, R139 to R141). -/
structure BayPort where
  up      : Bool
  station : Option Addr
  sendSeq : SeqNo
  prot    : List Frame
  back    : List Frame
  sending : Option Sending
  pacing  : Timer
  cnt     : BayCounts
deriving DecidableEq, Repr

/-! ## The origin record (chapter 3, 3.2) -/

/-- The settings part that an origin put carries (R149), the reference link resolved to an index (R155). -/
structure OriginSettings where
  mode     : BaselineMode
  manual   : Int
  k        : Nat
  j        : Nat
  m        : Nat
  t1       : Nat
  t2       : Nat
  t3       : Nat
  c        : Nat
  spike    : Nat
  hi       : Bool
  lo       : Bool
  hold     : Nat
  ref      : Option Nat
  weight   : Nat
  suppress : Bool
  silence  : Nat
deriving DecidableEq, Repr

/-- How a record was learned (R36): from a frame on a port, or from a roll-call of the record at an index. -/
inductive LearningNote where
  | frameOn (port : Lane)
  | rollCallOf (announcer : Nat)
deriving DecidableEq, Repr

/-- An open pair (R55, R68). -/
structure OpenPair where
  seq    : SeqNo
  first  : Lane
  tick   : Tick
  expiry : Tick
deriving DecidableEq, Repr

/-- The window part (R55). Bit n of `delivered` is the sequence at offset n behind the highest. -/
structure Window where
  seeded    : Bool
  highest   : SeqNo
  delivered : BitVec 64
  pairs     : List OpenPair
  staleRun  : Nat
deriving DecidableEq, Repr

/-- The lane part (R37, R73, R75). -/
structure LanePart where
  miss      : PerLane Nat
  state     : LaneState
  last      : PerLane (Option Tick)
  lastFrame : Option Tick
deriving DecidableEq, Repr

/-- The pipeline part (R79); skew values in sixteenths of a tick. -/
structure Pipeline where
  seeded    : Bool
  filtered  : Int
  baseline  : Int
  raw       : Int
  dev       : Int
  dir       : Direction
  level     : Level
  cand      : Level
  candCount : Nat
  decim     : Nat
  hold      : Timer
deriving DecidableEq, Repr

/-- The notification part: the last notified status (R103). -/
structure Notified where
  level : Level
  dir   : Direction
  lane  : LaneState
deriving DecidableEq, Repr

/-- The twelve counters of a record, in the order of R53. -/
structure OriginCounts where
  accepted    : Count
  twins       : Count
  repeats     : Count
  lateA       : Count
  lateB       : Count
  missA       : Count
  missB       : Count
  stale       : Count
  resyncs     : Count
  spikes      : Count
  saturated   : Count
  abandoned   : Count
deriving DecidableEq, Repr

/-- An origin record. It is configured when it has an owner and learned when it has none (R35). -/
structure Origin where
  addr       : Addr
  owners     : PerMaster Bool
  cfg        : OriginSettings
  forgetTime : Option Nat
  note       : Option LearningNote
  win        : Window
  lane       : LanePart
  pipe       : Pipeline
  notif      : Notified
  cnt        : OriginCounts
  silence    : Timer
  forget     : Timer
deriving DecidableEq, Repr

/-! ## Delivery table and settings -/

/-- A delivery table entry (R132); `members` is the delivery set. -/
structure Group where
  addr    : Addr
  cls     : GroupClass
  members : PerMaster Bool
deriving DecidableEq, Repr

/-- The learned profile (R36). -/
structure Profile where
  mode    : BaselineMode
  k       : Nat
  j       : Nat
  m       : Nat
  c       : Nat
  t1      : Nat
  t2      : Nat
  t3      : Nat
  spike   : Nat
  hi      : Bool
  lo      : Bool
  hold    : Nat
  silence : Nat
  forget  : Nat
deriving DecidableEq, Repr

/-- The global settings, in the units of R162. -/
structure Globals where
  pairTimeout  : Nat
  lossLimit    : Nat
  learning     : Bool
  profile      : Profile
  band         : HysteresisBand
  rollInterval : Nat
  probeLimit   : Nat
  linkFailTime : Nat
  settleTime   : Nat
  startQuiet   : Nat
  alertHold    : Nat
deriving DecidableEq, Repr

/-- The settings of one bay port (R133); the gap in microseconds. -/
structure BaySettings where
  policy   : GroupPolicy
  shedding : Bool
  gap      : Nat
deriving DecidableEq, Repr

/-! ## Staging and apply -/

/-- The fields of an origin put as staged: unclamped, the reference link an address (R149). -/
structure PutFields where
  mode     : BaselineMode
  manual   : Int
  k        : Nat
  j        : Nat
  m        : Nat
  t1       : Nat
  t2       : Nat
  t3       : Nat
  c        : Nat
  spike    : Nat
  hi       : Bool
  lo       : Bool
  hold     : Nat
  ref      : Option Addr
  weight   : Nat
  suppress : Bool
  silence  : Nat
  reseed   : Bool
deriving DecidableEq, Repr

/-- The global settings a put can name, in the order of their numbers (R162). -/
inductive GlobalSetting where
  | pairTimeout
  | lossLimit
  | learning
  | profileMode
  | profileK
  | profileJ
  | profileM
  | profileC
  | profileThresholds
  | profileSpike
  | profileHi
  | profileLo
  | profileHold
  | profileSilence
  | profileForget
  | band
  | rollInterval
  | probeLimit
  | linkFailTime
  | settleTime
  | startQuiet
  | alertHold
deriving DecidableEq, Repr

/-- The bay-port settings a put can name, in the order of their numbers (R162). -/
inductive BaySetting where
  | policy
  | shedding
  | gap
deriving DecidableEq, Repr

/-- A staged item (R149). A global setting put holds its 6-byte value field as three 16-bit numbers: the
three thresholds for the learned profile's thresholds, and the value in the last for every other setting. -/
inductive Item where
  | originPut (addr : Addr) (fields : PutFields)
  | originDelete (addr : Addr)
  | originShare (addr : Addr)
  | groupJoin (addr : Addr) (cls : GroupClass)
  | groupLeave (addr : Addr)
  | globalPut (setting : GlobalSetting) (v1 v2 v3 : Nat)
  | bayPut (setting : BaySetting) (value : Nat)
deriving DecidableEq, Repr

/-- A master's last apply result (R159). -/
inductive ApplyResult where
  | none
  | accepted (items : Nat)
  | clamped (items : Nat) (first : Nat)
  | refused (reason : RefusalReason) (item : Nat)
deriving DecidableEq, Repr

/-! ## Control links -/

/-- The answer of a taken command (R14, R15). -/
structure Answer where
  status  : Status
  results : List Byte
deriving DecidableEq, Repr

/-- Where a control link stands in its select period (R14): awaiting a command byte, holding one, receiving
arguments (how many are still to come, and those received), or with its command taken, driving the turnaround and
the answer. -/
inductive Framing where
  | idle
  | coded (code : Byte)
  | receiving (code : Byte) (left : Nat) (received : List Byte)
  | answering
deriving DecidableEq, Repr

/-- A control link (R14, R160, R167 to R170). `changes` is the change set, strictly rising. -/
structure ControlLink where
  framing : Framing
  flags   : EventSet
  mask    : EventSet
  changes : List Nat
  cut     : Count
  answer  : Option Answer
deriving DecidableEq, Repr

/-! ## Settings store -/

/-- A configured record as a set stores it (R171). -/
structure StoredOrigin where
  addr   : Addr
  owners : PerMaster Bool
  cfg    : OriginSettings
deriving DecidableEq, Repr

/-- What a set holds (R171). -/
structure SetContent where
  origins : List (Nat × StoredOrigin)
  groups  : List (Nat × Group)
  globals : Globals
  bayCfg  : PerMaster BaySettings
deriving DecidableEq, Repr

/-- A user set: its content, whether its integrity check holds, and its mark (R171). -/
structure UserSet where
  content    : SetContent
  checkHolds : Bool
  valid      : Bool
deriving DecidableEq, Repr

/-- The save in flight (R172). -/
structure SaveRecord where
  slot      : UserSlot
  requester : Master
  snapshot  : SetContent
deriving DecidableEq, Repr

/-- A master's last save result (R172). -/
inductive SaveResult where
  | none
  | ok (set : SetNo)
  | failed (set : SetNo)
deriving DecidableEq, Repr

/-! ## The whole part -/

/-- The state of the part, and the queue of commands waiting (`pending`, the model's own). -/
structure State where
  station      : Addr
  revision     : Byte
  tick         : Tick
  seconds      : Count
  restarts     : Count
  ready        : Bool
  lines        : PerLane LinePort
  bays         : PerMaster BayPort
  rollTimer    : Timer
  rollSeq      : SeqNo
  quiet        : Timer
  origins      : List (Nat × Origin)
  silentOrder  : List Nat
  groups       : List (Nat × Group)
  globals      : Globals
  bayCfg       : PerMaster BaySettings
  alert        : AlertState
  alertHold    : Timer
  staging      : PerMaster (List Item)
  applyPending : PerMaster Bool
  applyResult  : PerMaster ApplyResult
  links        : PerMaster ControlLink
  set1         : UserSet
  set2         : UserSet
  startSet     : SetNo
  save         : Option SaveRecord
  saveResult   : PerMaster SaveResult
  restartArmed : Bool
  pending      : List Instr
deriving DecidableEq, Repr

/-- Faults. The manual gives the part none: errors are counts, status bytes, apply refusals and event
flags, so no meaning raises one (log 25). -/
inductive Fault where
deriving DecidableEq, Repr

/-- Refusals. -/
inductive Refusal where
  /-- A row of the table whose meaning is not written yet; raised by `exec`'s arm alone. Safe. -/
  | notModelled (mnemonic : String)
deriving DecidableEq, Repr

/-! ## Reset -/

/-- Line port counts after a reset (R131). -/
def LineCounts.zero : LineCounts :=
  ⟨0, 0, 0, 0, 0, 0, 0, 0, 0, 0, 0, 0, 0, 0, 0, 0, 0⟩

/-- Bay port counts after a reset (R32, R146). -/
def BayCounts.zero : BayCounts :=
  ⟨0, 0, 0, 0, 0, 0, 0, 0, 0, 0, 0, 0, 0, 0, 0, 0, 0⟩

/-- The counters of a new record (R37). -/
def OriginCounts.zero : OriginCounts :=
  ⟨0, 0, 0, 0, 0, 0, 0, 0, 0, 0, 0, 0⟩

/-- A line port after a reset (R115). -/
def LinePort.reset : LinePort where
  state := .down
  unconfirmed := false
  run := ⟨none, 0⟩
  linkFail := none
  settle := none
  probe := none
  laneUp := 0
  prot := []
  back := []
  sending := none
  cnt := .zero

/-- A bay port after a reset (R16, R19, R26, R139, R141). -/
def BayPort.reset : BayPort where
  up := false
  station := none
  sendSeq := 0
  prot := []
  back := []
  sending := none
  pacing := none
  cnt := .zero

/-- A control link after a reset, before start-up raises RESTART SEEN (R14, R160, R167, R169, R170). -/
def ControlLink.reset : ControlLink where
  framing := .idle
  flags := 0
  mask := 0
  changes := []
  cut := 0
  answer := none

/-- The factory values of the global settings (chapter 0, section 6). -/
def factoryGlobals : Globals where
  pairTimeout := 10
  lossLimit := 3
  learning := true
  profile :=
    { mode := .auto, k := 2, j := 7, m := 8, c := 2, t1 := 50, t2 := 200, t3 := 1000, spike := 500,
      hi := true, lo := true, hold := 40, silence := 100, forget := 30 }
  band := .eighth
  rollInterval := 10
  probeLimit := 3
  linkFailTime := 20
  settleTime := 50
  startQuiet := 15
  alertHold := 20

/-- The factory values of a bay port's settings (chapter 0, section 6). -/
def factoryBay : BaySettings where
  policy := .deliver
  shedding := true
  gap := 0

/-- Set 0, the factory set (R171). -/
def factorySet : SetContent where
  origins := []
  groups := []
  globals := factoryGlobals
  bayCfg := ⟨factoryBay, factoryBay⟩

/-- A user set that has never been written (R171): invalid; what it would hold is never read (log 18). -/
def UserSet.blank : UserSet where
  content := factorySet
  checkHolds := false
  valid := false

/-- The part right after power-on with the factory start set and no PHY reporting link (R174, R175): the
start-up steps are done, RESTART SEEN stands on both links (bit 10, R167), the start quiet runs. The station
address, the revision and the never-written sets are log 5 and log 7. -/
def State.reset : State where
  station := 0
  revision := 0
  tick := 0
  seconds := 0
  restarts := 0
  ready := true
  lines := ⟨.reset, .reset⟩
  bays := ⟨.reset, .reset⟩
  rollTimer := none
  rollSeq := 0
  quiet := some 15
  origins := []
  silentOrder := []
  groups := []
  globals := factoryGlobals
  bayCfg := ⟨factoryBay, factoryBay⟩
  alert := .calm
  alertHold := none
  staging := ⟨[], []⟩
  applyPending := ⟨false, false⟩
  applyResult := ⟨.none, .none⟩
  links := ⟨{ ControlLink.reset with flags := 0x0400 }, { ControlLink.reset with flags := 0x0400 }⟩
  set1 := .blank
  set2 := .blank
  startSet := .s0
  save := none
  saveResult := ⟨.none, .none⟩
  restartArmed := false
  pending := []

end Sys2Proof.Machine
end

