-- ==== Sys2Proof/Machine/Table.lean ====
section
/-! DEFINITION. Tables with numbered places (origin table, delivery table) as lists of (place, entry) in one
canonical form: places strictly rising. An unlisted place is free (R33, R132). -/

namespace Sys2Proof.Machine

/-- The entry at a place. -/
def tabGet {α : Type} : List (Nat × α) → Nat → Option α
  | [], _ => none
  | (k, v) :: t, i => if k = i then some v else tabGet t i

/-- Put an entry at a place, in place of what stood there. -/
def tabPut {α : Type} : List (Nat × α) → Nat → α → List (Nat × α)
  | [], i, x => [(i, x)]
  | (k, v) :: t, i, x =>
    if i < k then (i, x) :: (k, v) :: t
    else if i = k then (i, x) :: t
    else (k, v) :: tabPut t i x

/-- Free a place. -/
def tabErase {α : Type} : List (Nat × α) → Nat → List (Nat × α)
  | [], _ => []
  | (k, v) :: t, i => if k = i then t else (k, v) :: tabErase t i

/-- The lowest place at or above `n` that a table with no place below `n` leaves free. -/
def tabFreeFrom {α : Type} : List (Nat × α) → Nat → Nat
  | [], n => n
  | (k, _) :: t, n => if k = n then tabFreeFrom t (n + 1) else n

/-- The lowest free place (R34, R132). -/
def tabFree {α : Type} (t : List (Nat × α)) : Nat := tabFreeFrom t 0

/-- The first entry, lowest place first, that a test picks. -/
def tabFind {α : Type} (p : α → Bool) : List (Nat × α) → Option (Nat × α)
  | [] => none
  | (k, v) :: t => if p v then some (k, v) else tabFind p t

/-- The places in use, lowest first. -/
def tabKeys {α : Type} (t : List (Nat × α)) : List Nat := t.map Prod.fst

/-- Every entry changed in place. -/
def tabMap {α β : Type} (f : α → β) (t : List (Nat × α)) : List (Nat × β) :=
  t.map fun e => (e.1, f e.2)

/-- The entries a test picks, changed, each at its place. -/
def tabFilterMap {α β : Type} (f : α → Option β) : List (Nat × α) → List (Nat × β)
  | [] => []
  | (k, v) :: t =>
    match f v with
    | some w => (k, w) :: tabFilterMap f t
    | none => tabFilterMap f t

/-- Numbers strictly rising, all at or above `n`. -/
def risingFrom : Nat → List Nat → Bool
  | _, [] => true
  | n, k :: t => decide (n ≤ k) && risingFrom (k + 1) t

/-- The canonical form of a table of `bound` places: places strictly rising, all below `bound`. -/
def tabWf {α : Type} (bound : Nat) (t : List (Nat × α)) : Bool :=
  risingFrom 0 (tabKeys t) && (tabKeys t).all fun k => decide (k < bound)

/-- Add a number to a set held strictly rising; a member stays once (R170). -/
def setInsert : Nat → List Nat → List Nat
  | i, [] => [i]
  | i, k :: t => if i < k then i :: k :: t else if i = k then k :: t else k :: setInsert i t

end Sys2Proof.Machine
end

