-- ==== Sys2Proof/Machine/Flags.lean ====
section
/-! DEFINITION. Event flags, masks, the attention output and change sets (chapter 10, 10.3 and 10.4). -/

namespace Sys2Proof.Machine

/-- The field of one line port. -/
def PerLane.get {α : Type} (x : PerLane α) : Lane → α
  | .a => x.a
  | .b => x.b

/-- Replace the field of one line port. -/
def PerLane.set {α : Type} (x : PerLane α) (l : Lane) (v : α) : PerLane α :=
  match l with
  | .a => { x with a := v }
  | .b => { x with b := v }

/-- The field of one master, bay port or link. -/
def PerMaster.get {α : Type} (x : PerMaster α) : Master → α
  | .m1 => x.one
  | .m2 => x.two

/-- Replace the field of one master, bay port or link. -/
def PerMaster.set {α : Type} (x : PerMaster α) (m : Master) (v : α) : PerMaster α :=
  match m with
  | .m1 => { x with one := v }
  | .m2 => { x with two := v }

/-- The other lane. -/
def otherLane : Lane → Lane
  | .a => .b
  | .b => .a

/-- The other master, bay port or link. -/
def otherMaster : Master → Master
  | .m1 => .m2
  | .m2 => .m1

/-- The number of an event kind (R167). -/
def EventKind.number : EventKind → Nat
  | .originChange => 0
  | .tableFull => 1
  | .lanePort => 2
  | .linkLost => 3
  | .crossed => 4
  | .alert => 5
  | .queueDrop => 6
  | .applyDone => 7
  | .saveDone => 8
  | .storeRejected => 9
  | .restartSeen => 10

/-- The event set that names one kind (R162). -/
def EventKind.bit (k : EventKind) : EventSet := 1#16 <<< k.number

/-- The event set of all kinds; bits 11 to 15 name none (R167). -/
def allKinds : EventSet := 0x07FF#16

/-- Whether a kind's flag is set in an event set. -/
def hasKind (e : EventSet) (k : EventKind) : Bool := e &&& k.bit != 0

/-- Raise a kind on one link: its flag becomes or stays set (R167). -/
def ControlLink.raise (k : EventKind) (c : ControlLink) : ControlLink :=
  { c with flags := c.flags ||| k.bit }

/-- Acknowledge the named kinds, RESTART SEEN excepted (R168). -/
def ControlLink.ack (named : EventSet) (c : ControlLink) : ControlLink :=
  { c with flags := c.flags &&& ~~~(named &&& ~~~EventKind.restartSeen.bit) }

/-- ACK RESTART's effect on the flags (R168). -/
def ControlLink.ackRestartSeen (c : ControlLink) : ControlLink :=
  { c with flags := c.flags &&& ~~~EventKind.restartSeen.bit }

/-- Add an index to the change set (R170). -/
def ControlLink.addChange (i : Nat) (c : ControlLink) : ControlLink :=
  { c with changes := setInsert i c.changes }

/-- The attention output: asserted while some flag is set and not masked (R169). -/
def ControlLink.attention (c : ControlLink) : Bool := c.flags &&& ~~~c.mask &&& allKinds != 0

/-- Put a control link in place. -/
def State.setLink (m : Master) (c : ControlLink) (s : State) : State :=
  { s with links := s.links.set m c }

/-- Change one control link. -/
def State.onLink (m : Master) (f : ControlLink → ControlLink) (s : State) : State :=
  s.setLink m (f (s.links.get m))

/-- Change both control links alike. -/
def State.onLinks (f : ControlLink → ControlLink) (s : State) : State :=
  { s with links := ⟨f s.links.one, f s.links.two⟩ }

/-- Raise a kind for one master alone (R167). -/
def raiseFor (m : Master) (k : EventKind) (s : State) : State := s.onLink m (.raise k)

/-- Raise a kind for both masters (R167). -/
def raiseBoth (k : EventKind) (s : State) : State := s.onLinks (.raise k)

/-- What every notification does on the links: the index joins both change sets and ORIGIN CHANGE is raised
for both masters (R104, R50). -/
def markChange (i : Nat) (s : State) : State :=
  raiseBoth .originChange (s.onLinks (.addChange i))

/-- The attention output of a link (R169). -/
def attention (s : State) (m : Master) : Bool := (s.links.get m).attention

end Sys2Proof.Machine
end

