-- ==== Sys2Proof/Machine/Operands.lean ====
section
/-! DEFINITION. Reading and writing the byte layouts the manual gives: addresses and numbers, the lane trailer,
the roll-call frame, the fields of results (R162) and the STAGE items (R149, R162). -/

namespace Sys2Proof.Machine

/-! ## Numbers and addresses, most significant byte first (R15) -/

/-- The number a run of bytes spells. -/
def beNat (bs : List Byte) : Nat := bs.foldl (fun n b => n * 256 + b.toNat) 0

/-- A number in `k` bytes. -/
def beBytes : Nat → Nat → List Byte
  | 0, _ => []
  | k + 1, v => BitVec.ofNat 8 (v >>> (8 * k)) :: beBytes k v

/-- The bytes at `off`, `k` of them. -/
def slice (bs : List Byte) (off k : Nat) : List Byte := (bs.drop off).take k

/-- The number in the `k` bytes at `off`. -/
def numAt (bs : List Byte) (off k : Nat) : Nat := beNat (slice bs off k)

/-- The station or group address in the six bytes at `off`. -/
def addrAt (bs : List Byte) (off : Nat) : Addr := BitVec.ofNat 48 (numAt bs off 6)

/-- A value in sixteenths of a tick: three bytes, two's complement (R162). -/
def skewAt (bs : List Byte) (off : Nat) : Int := (BitVec.ofNat 24 (numAt bs off 3)).toInt

/-- Destination address, bytes 0 to 5 (R6). -/
def destOf (data : List Byte) : Addr := addrAt data 0

/-- Source address, bytes 6 to 11 (R6). -/
def sourceOf (data : List Byte) : Addr := addrAt data 6

/-- The lowest bit of the first byte (R17, R19). -/
def groupBit (a : Addr) : Bool := a.getLsbD 40

/-- A group address: group bit set, other than the broadcast address (R17). -/
def isGroup (a : Addr) : Bool := groupBit a && a != Config.broadcast

/-! ## The lane trailer (chapter 1, 1.2) -/

/-- The class code of the descriptor (R7). -/
def TrafficClass.code : TrafficClass → Nat
  | .bulk => 0
  | .sample => 1
  | .trip => 2
  | .rollCall => 3

/-- The class a two-bit code names. -/
def classOfCode : Nat → TrafficClass
  | 0 => .bulk
  | 1 => .sample
  | 2 => .trip
  | _ => .rollCall

/-- The lane code of the descriptor: 01 for lane A, 10 for lane B. -/
def laneCode : Lane → Nat
  | .a => 1
  | .b => 2

/-- The lane a code names; 00 and 11 are invalid. -/
def laneOfCode : Nat → Option Lane
  | 1 => some .a
  | 2 => some .b
  | _ => none

/-- The eight trailer bytes of a copy (R3). -/
def trailerBytes (seq : SeqNo) (code : Lane) (cls : TrafficClass) (span : Nat) : List Byte :=
  beBytes 2 seq.toNat ++ [BitVec.ofNat 8 (laneCode code * 64 + cls.code * 16 + Config.trailerVersion)] ++
    beBytes 2 span ++ Config.marker

/-- What recognition hands the pair filter for a tagged frame (R6). -/
structure Tagged where
  source : Addr
  dest   : Addr
  seq    : SeqNo
  code   : Lane
  cls    : TrafficClass
  body   : List Byte
deriving DecidableEq, Repr

/-- The answer of trailer recognition: untagged, untagged with a trailer mismatch (R5), or tagged. -/
inductive Recognition where
  | untagged
  | mismatch
  | tagged (t : Tagged)
deriving DecidableEq, Repr

/-- Trailer recognition (R4, R5), on the bytes before the FCS. -/
def recognise (data : List Byte) : Recognition :=
  let n := data.length
  match data.drop (n - 8) with
  | [q1, q0, d, p1, p0, x, y, z] =>
    if [x, y, z] ≠ Config.marker then .untagged
    else
      match laneOfCode (d.toNat / 64) with
      | none => .mismatch
      | some code =>
        if 68 ≤ n ∧ d.toNat % 16 = Config.trailerVersion ∧ beNat [p1, p0] = n - 8 then
          .tagged
            { source := sourceOf data, dest := destOf data, seq := BitVec.ofNat 16 (beNat [q1, q0]),
              code := code, cls := classOfCode (d.toNat / 16 % 4), body := data.take (n - 8) }
        else .mismatch
  | _ => .untagged

/-! ## The roll-call frame (chapter 1, 1.6) -/

/-- The addresses in the six-byte places from the start of a list. -/
def addrList : Nat → List Byte → List Addr
  | 0, _ => []
  | n + 1, bs => addrAt bs 0 :: addrList n (bs.drop 6)

/-- The checks of R11 on the frame bytes before the trailer. -/
def rollCallWellFormed (body : List Byte) : Bool :=
  decide (destOf body = Config.rollCallGroup) && decide (slice body 12 2 = Config.rollCallType) &&
    decide (numAt body 14 1 = 1) && decide (numAt body 17 1 ≤ 8) &&
    decide (18 + 6 * numAt body 17 1 ≤ body.length)

/-- The proxy list: the first proxy-count addresses after byte 17 (R11). -/
def proxiesOf (body : List Byte) : List Addr := addrList (numAt body 17 1) (body.drop 18)

/-- The bytes of an address. -/
def addrBytes (a : Addr) : List Byte := beBytes 6 a.toNat

/-- The content of the part's own roll-call before its trailer: 60 bytes, padded with 00h (R10). -/
def rollCallBody (own : Addr) (interval : Nat) (proxies : List Addr) : List Byte :=
  let content := addrBytes Config.rollCallGroup ++ addrBytes own ++ Config.rollCallType ++
    [1#8, 1#8, BitVec.ofNat 8 interval, BitVec.ofNat 8 proxies.length] ++ proxies.flatMap addrBytes
  content ++ List.replicate (60 - content.length) 0#8

/-! ## Result fields (R162) -/

/-- A one-byte field. -/
def byteField (n : Nat) : List Byte := beBytes 1 n

/-- A two-byte field. -/
def wordField (n : Nat) : List Byte := beBytes 2 n

/-- A four-byte field: ticks, seconds and 32-bit counters. -/
def countField (c : BitVec 32) : List Byte := beBytes 4 c.toNat

/-- A three-byte field: sixteenths of a tick, two's complement. -/
def skewField (v : Int) : List Byte := beBytes 3 (BitVec.ofInt 24 v).toNat

/-- A flag: 1 when set and 0 when clear. -/
def flagField (b : Bool) : List Byte := byteField (if b then 1 else 0)

/-- A field that may be absent: a presence byte, then its bytes, zeros when absent. -/
def optField {α : Type} (width : Nat) (f : α → List Byte) : Option α → List Byte
  | some v => byteField 1 ++ f v
  | none => byteField 0 ++ List.replicate width 0#8

/-- The position of a lane in the order A, B. -/
def lanePosition : Lane → Nat
  | .a => 0
  | .b => 1

/-- The number of a link. -/
def linkNumber : Master → Nat
  | .m1 => 1
  | .m2 => 2

def PortState.position : PortState → Nat
  | .down => 0
  | .settling => 1
  | .probing => 2
  | .confirmed => 3
  | .crossed => 4

def BaselineMode.position : BaselineMode → Nat
  | .off => 0
  | .auto => 1
  | .manual => 2
  | .capture => 3

def Level.position : Level → Nat
  | .steady => 0
  | .drift => 1
  | .excess => 2
  | .gross => 3

def Direction.position : Direction → Nat
  | .aLate => 0
  | .neither => 1
  | .bLate => 2

def LaneState.position : LaneState → Nat
  | .paired => 0
  | .loneA => 1
  | .loneB => 2
  | .fragmented => 3
  | .silent => 4

def GroupClass.position : GroupClass → Nat
  | .trip => 0
  | .sample => 1
  | .bulk => 2

def GroupPolicy.position : GroupPolicy → Nat
  | .deliver => 0
  | .drop => 1

def AlertState.position : AlertState → Nat
  | .calm => 0
  | .alert => 1

def RefusalReason.position : RefusalReason → Nat
  | .notOwner => 0
  | .order => 1
  | .reference => 2
  | .referenced => 3
  | .noRoom => 4
  | .classConflict => 5
  | .groupFull => 6
  | .unknown => 7

def SetNo.position : SetNo → Nat
  | .s0 => 0
  | .s1 => 1
  | .s2 => 2

/-- The status byte (R15). -/
def Status.code : Status → Byte
  | .ok => 0x00#8
  | .busy => 0x01#8
  | .full => 0x02#8
  | .badCommand => 0x03#8
  | .badLength => 0x04#8
  | .badIndex => 0x05#8

/-- Owners as 0 for none, 1, 2, or 3 for both (R164). -/
def ownersCode (o : PerMaster Bool) : Nat := (if o.one then 1 else 0) + (if o.two then 2 else 0)

/-! ## STAGE items (R149, R162) -/

/-- The argument length of each item kind. -/
def itemLength : Nat → Option Nat
  | 0 => some 37
  | 1 => some 7
  | 2 => some 7
  | 3 => some 8
  | 4 => some 7
  | 5 => some 8
  | 6 => some 4
  | _ => none

/-- The mode a code names. -/
def modeOfCode : Nat → Option BaselineMode
  | 0 => some .off
  | 1 => some .auto
  | 2 => some .manual
  | 3 => some .capture
  | _ => none

/-- The class a STAGE code names: trip 0, sample 1, bulk 2. -/
def groupClassOfCode : Nat → Option GroupClass
  | 0 => some .trip
  | 1 => some .sample
  | 2 => some .bulk
  | _ => none

/-- The flag a code names: 1 or 0, no other. -/
def flagOfCode : Nat → Option Bool
  | 0 => some false
  | 1 => some true
  | _ => none

/-- The global settings by number (R162). -/
def globalOfNumber : Nat → Option GlobalSetting
  | 0 => some .pairTimeout
  | 1 => some .lossLimit
  | 2 => some .learning
  | 3 => some .profileMode
  | 4 => some .profileK
  | 5 => some .profileJ
  | 6 => some .profileM
  | 7 => some .profileC
  | 8 => some .profileThresholds
  | 9 => some .profileSpike
  | 10 => some .profileHi
  | 11 => some .profileLo
  | 12 => some .profileHold
  | 13 => some .profileSilence
  | 14 => some .profileForget
  | 15 => some .band
  | 16 => some .rollInterval
  | 17 => some .probeLimit
  | 18 => some .linkFailTime
  | 19 => some .settleTime
  | 20 => some .startQuiet
  | 21 => some .alertHold
  | _ => none

/-- The bay-port settings by number (R162). -/
def baySettingOfNumber : Nat → Option BaySetting
  | 0 => some .policy
  | 1 => some .shedding
  | 2 => some .gap
  | _ => none

/-- The largest code of a global setting that holds codes, and none for one that holds a number (R149). -/
def globalMaxCode : GlobalSetting → Option Nat
  | .learning => some 1
  | .profileMode => some 3
  | .profileHi => some 1
  | .profileLo => some 1
  | .band => some 1
  | _ => none

/-- The largest code of a bay-port setting that holds codes. -/
def bayMaxCode : BaySetting → Option Nat
  | .policy => some 1
  | .shedding => some 1
  | .gap => none

/-- Whether a value is one of a setting's codes; a number always is. -/
def codeAdmitted (maxCode : Option Nat) (v : Nat) : Bool :=
  match maxCode with
  | some m => decide (v ≤ m)
  | none => true

/-- The reference link of an origin put: presence byte, then an address that an absent link leaves unread.
None where the presence byte is no code or the address has its group bit set (R149). -/
def refAt (bs : List Byte) (off : Nat) : Option (Option Addr) :=
  match flagOfCode (numAt bs off 1) with
  | none => none
  | some false => some none
  | some true => if groupBit (addrAt bs (off + 1)) then none else some (some (addrAt bs (off + 1)))

/-- The fields of an origin put, whose 37 argument bytes begin with the kind; none where an enumerated
field holds a code outside its values or the reference names a group address (R149). -/
def putFieldsOf (bs : List Byte) : Option PutFields :=
  match modeOfCode (numAt bs 7 1), flagOfCode (numAt bs 23 1), flagOfCode (numAt bs 24 1), refAt bs 26,
    flagOfCode (numAt bs 34 1), flagOfCode (numAt bs 36 1) with
  | some mode, some hi, some lo, some ref, some suppress, some reseed =>
    some
      { mode := mode, manual := skewAt bs 8, k := numAt bs 11 1, j := numAt bs 12 1, m := numAt bs 13 1,
        t1 := numAt bs 14 2, t2 := numAt bs 16 2, t3 := numAt bs 18 2, c := numAt bs 20 1,
        spike := numAt bs 21 2, hi := hi, lo := lo, hold := numAt bs 25 1, ref := ref,
        weight := numAt bs 33 1, suppress := suppress, silence := numAt bs 35 1, reseed := reseed }
  | _, _, _, _, _, _ => none

/-- The item of a kind whose argument length is right; none where R149 answers BAD-INDEX. -/
def itemOf (bs : List Byte) : Option Item :=
  match numAt bs 0 1 with
  | 0 => if groupBit (addrAt bs 1) then none else (putFieldsOf bs).map (.originPut (addrAt bs 1))
  | 1 => if groupBit (addrAt bs 1) then none else some (.originDelete (addrAt bs 1))
  | 2 => if groupBit (addrAt bs 1) then none else some (.originShare (addrAt bs 1))
  | 3 =>
    if isGroup (addrAt bs 1) then (groupClassOfCode (numAt bs 7 1)).map (.groupJoin (addrAt bs 1)) else none
  | 4 => if isGroup (addrAt bs 1) then some (.groupLeave (addrAt bs 1)) else none
  | 5 =>
    match globalOfNumber (numAt bs 1 1) with
    | none => none
    | some .profileThresholds =>
      some (.globalPut .profileThresholds (numAt bs 2 2) (numAt bs 4 2) (numAt bs 6 2))
    | some g => if codeAdmitted (globalMaxCode g) (numAt bs 6 2) then some (.globalPut g 0 0 (numAt bs 6 2)) else none
  | 6 =>
    match baySettingOfNumber (numAt bs 1 1) with
    | none => none
    | some b => if codeAdmitted (bayMaxCode b) (numAt bs 2 2) then some (.bayPut b (numAt bs 2 2)) else none
  | _ => none

/-- The form check of a staged item (R149): the item, or BAD-LENGTH or BAD-INDEX. -/
def formCheck (bs : List Byte) : Except Status Item :=
  match bs with
  | [] => .error .badLength
  | kind :: _ =>
    match itemLength kind.toNat with
    | none => .error .badLength
    | some n =>
      if bs.length ≠ n then .error .badLength
      else
        match itemOf bs with
        | none => .error .badIndex
        | some it => .ok it

end Sys2Proof.Machine
end

