-- ==== Sys2Proof/Machine/Ops.lean ====
section
/-! DEFINITION. The named operations every family uses: frame check and FCS, port records, counts, offers to
egress queues, trip reports, look-ups and control-link answers. -/

namespace Sys2Proof.Machine

/-! ## The frame check (R1) -/

/-- One bit of the Ethernet CRC-32 (log 4). -/
def crcBit (c : Nat) : Nat := if c % 2 = 1 then (c / 2) ^^^ 0xEDB88320 else c / 2

/-- One byte of the Ethernet CRC-32. -/
def crcByte (c : Nat) (b : Byte) : Nat :=
  crcBit (crcBit (crcBit (crcBit (crcBit (crcBit (crcBit (crcBit (c ^^^ b.toNat))))))))

/-- The FCS over a frame's bytes (PRESUMED: IEEE 802.3's CRC-32, log 4). -/
def fcs (data : List Byte) : BitVec 32 :=
  BitVec.ofNat 32 ((data.foldl crcByte 0xFFFFFFFF) ^^^ 0xFFFFFFFF)

/-- A frame as it leaves on the wire: its bytes, then its FCS, least significant byte first (log 4). -/
def wireOf (data : List Byte) : List Byte := data ++ (beBytes 4 (fcs data).toNat).reverse

/-- The checks of R1 on a received frame: FCS right, 60 to 1,522 bytes before it. -/
def frameGood (f : RxFrame) : Bool :=
  decide (f.fcs = fcs f.data) && decide (Config.minFrame ≤ f.data.length) &&
    decide (f.data.length ≤ Config.maxFrame)

/-! ## Ports -/

/-- Put a line port in place. -/
def State.setLine (l : Lane) (p : LinePort) (s : State) : State := { s with lines := s.lines.set l p }

/-- Put a bay port in place. -/
def State.setBay (m : Master) (p : BayPort) (s : State) : State := { s with bays := s.bays.set m p }

/-- Change one line port. -/
def State.onLine (l : Lane) (f : LinePort → LinePort) (s : State) : State := s.setLine l (f (s.lines.get l))

/-- Change one bay port. -/
def State.onBay (m : Master) (f : BayPort → BayPort) (s : State) : State := s.setBay m (f (s.bays.get m))

/-- Change the counts of one line port. -/
def State.countLine (l : Lane) (f : LineCounts → LineCounts) (s : State) : State :=
  s.onLine l fun p => { p with cnt := f p.cnt }

/-- Change the counts of one bay port. -/
def State.countBay (m : Master) (f : BayCounts → BayCounts) (s : State) : State :=
  s.onBay m fun p => { p with cnt := f p.cnt }

/-- Whether a line port's link is present: it is not Down and its link-fail timer is not running (R116). -/
def LinePort.linkPresent (p : LinePort) : Bool := decide (p.state ≠ .down) && p.linkFail.isNone

/-- Whether a line port is unavailable: Down or Settling (R74, R109). -/
def LinePort.unavailable (p : LinePort) : Bool := decide (p.state = .down) || decide (p.state = .settling)

/-- The egress queue of a class (R7). -/
def TrafficClass.queue : TrafficClass → QueueKind
  | .bulk => .background
  | .sample => .protection
  | .trip => .protection
  | .rollCall => .protection

/-- The class of a delivery table entry as a frame's class. -/
def GroupClass.traffic : GroupClass → TrafficClass
  | .trip => .trip
  | .sample => .sample
  | .bulk => .bulk

/-! ## Offers -/

/-- The shed count of a class on a line port (R28, R125). -/
def LineCounts.shed (cls : TrafficClass) (c : LineCounts) : LineCounts :=
  match cls with
  | .trip => { c with shedTrip := c.shedTrip + 1 }
  | .sample => { c with shedSample := c.shedSample + 1 }
  | .bulk => { c with shedBulk := c.shedBulk + 1 }
  | .rollCall => { c with shedRoll := c.shedRoll + 1 }

/-- Whether a line port's queue of a class has room (R27, R125). -/
def LinePort.hasRoom (p : LinePort) (cls : TrafficClass) : Bool :=
  match cls.queue with
  | .protection => decide (p.prot.length < Config.lineProtMax)
  | .background => decide (p.back.length < Config.lineBackMax)

/-- A frame at the tail of its class queue. -/
def LinePort.enqueue (p : LinePort) (f : Frame) : LinePort :=
  match f.cls.queue with
  | .protection => { p with prot := p.prot ++ [f] }
  | .background => { p with back := p.back ++ [f] }

/-- Whether an offer of a class to a line port is enqueued (R27, R125). -/
def LinePort.accepts (p : LinePort) (cls : TrafficClass) : Bool := decide (p.state ≠ .down) && p.hasRoom cls

/-- An offer of a copy to a line port (R27, R28, R125). -/
def LinePort.offer (p : LinePort) (f : Frame) : LinePort :=
  if p.state = .down then p
  else if p.hasRoom f.cls then p.enqueue f
  else { p with cnt := p.cnt.shed f.cls }

/-- The copy of a frame for one lane: its bytes and the lane trailer (R3). -/
def laneCopy (l : Lane) (seq : SeqNo) (cls : TrafficClass) (body : List Byte) : Frame :=
  ⟨cls, body ++ trailerBytes seq l cls body.length⟩

/-- Offer each line port its copy of a numbered frame (R27, R125). -/
def offerLanes (seq : SeqNo) (cls : TrafficClass) (body : List Byte) (s : State) : State :=
  { s with lines := ⟨s.lines.a.offer (laneCopy .a seq cls body), s.lines.b.offer (laneCopy .b seq cls body)⟩ }

/-- What becomes of an offer to a bay port (R137). -/
inductive BayOutcome where
  | linkDown
  | shed
  | full
  | enqueued
deriving DecidableEq, Repr

/-- Whether a bay port's queue of a class has room (R137). -/
def BayPort.hasRoom (p : BayPort) (cls : TrafficClass) : Bool :=
  match cls.queue with
  | .protection => decide (p.prot.length < Config.bayProtMax)
  | .background => decide (p.back.length < Config.bayBackMax)

/-- A frame at the tail of its class queue. -/
def BayPort.enqueue (p : BayPort) (f : Frame) : BayPort :=
  match f.cls.queue with
  | .protection => { p with prot := p.prot ++ [f] }
  | .background => { p with back := p.back ++ [f] }

/-- The four steps by which an offer to a bay port is decided (R137). -/
def bayOutcome (m : Master) (cls : TrafficClass) (s : State) : BayOutcome :=
  if (s.bays.get m).up = false then .linkDown
  else if cls = .bulk ∧ s.alert = .alert ∧ (s.bayCfg.get m).shedding = true then .shed
  else if (s.bays.get m).hasRoom cls then .enqueued
  else .full

/-- The drop count of a queue (R138). -/
def BayCounts.drop (q : QueueKind) (c : BayCounts) : BayCounts :=
  match q with
  | .protection => { c with dropProt := c.dropProt + 1 }
  | .background => { c with dropBack := c.dropBack + 1 }

/-- An offer of a frame to a bay port, from delivery (R137, R138, R145). -/
def offerBay (m : Master) (f : Frame) (s : State) : State :=
  match bayOutcome m f.cls s with
  | .linkDown => s
  | .shed => s.countBay m fun c => { c with shedBay := c.shedBay + 1 }
  | .full => raiseBoth .queueDrop (s.countBay m (.drop f.cls.queue))
  | .enqueued => s.onBay m fun p => p.enqueue f

/-- An offer of a local copy: as any offer, and counted as local received when it is enqueued (R22, R137). -/
def offerLocal (m : Master) (f : Frame) (s : State) : State :=
  match bayOutcome m f.cls s with
  | .enqueued => (offerBay m f s).countBay m fun c => { c with localRx := c.localRx + 1 }
  | _ => offerBay m f s

/-- A trip report: it starts or restarts the alert hold, and from Calm enters Alert and raises ALERT (R143). -/
def tripReport (s : State) : State :=
  let s' := { s with alert := .alert, alertHold := some s.globals.alertHold }
  if s.alert = .calm then raiseBoth .alert s' else s'

/-! ## Look-ups -/

/-- The index and record that hold a station address (R33, R39). -/
def findOrigin (s : State) (a : Addr) : Option (Nat × Origin) := tabFind (fun r => decide (r.addr = a)) s.origins

/-- The slot and entry of a group address (R132). -/
def findGroup (t : List (Nat × Group)) (a : Addr) : Option (Nat × Group) := tabFind (fun g => decide (g.addr = a)) t

/-- Whether a record is learned: it has no owner (R35). -/
def Origin.learned (r : Origin) : Bool := !r.owners.one && !r.owners.two

/-- Whether an address is the part's own or a known bay station address (R38, R51). -/
def ownAddress (s : State) (a : Addr) : Bool :=
  decide (a = s.station) || decide (s.bays.one.station = some a) || decide (s.bays.two.station = some a)

/-- The class R17 gives a relay's frame and R8 an untagged lane frame: its group entry's, or bulk. -/
def classByTable (s : State) (dest : Addr) : TrafficClass :=
  if isGroup dest then
    match findGroup s.groups dest with
    | some (_, g) => g.cls.traffic
    | none => .bulk
  else .bulk

/-- Put a record at an index. -/
def State.setOrigin (i : Nat) (r : Origin) (s : State) : State := { s with origins := tabPut s.origins i r }

/-- The record at an index. -/
def originAt (s : State) (i : Nat) : Option Origin := tabGet s.origins i

/-! ## Control-link framing and answers (R14, R15, R161) -/

/-- One byte received within a select period: the framing after it, and the command byte and arguments when this
byte takes the command. Bytes after that are ignored (R14). -/
def Framing.receive (b : Byte) : Framing → Framing × Option (Byte × Args)
  | .idle => (.coded b, none)
  | .coded code =>
    if Config.maxArgs < b.toNat then (.answering, some (code, .overlong b))
    else if b.toNat = 0 then (.answering, some (code, .taken []))
    else (.receiving code b.toNat [], none)
  | .receiving code left received =>
    if left ≤ 1 then (.answering, some (code, .taken (received ++ [b])))
    else (.receiving code (left - 1) (received ++ [b]), none)
  | .answering => (.answering, none)

/-- The bytes of a select period received one after another: the framing at the end, and the command taken among
them, if any. -/
def Framing.run : Framing → List Byte → Framing × Option (Byte × Args)
  | f, [] => (f, none)
  | f, b :: bs =>
    let (f', taken) := Framing.receive b f
    let (f'', later) := Framing.run f' bs
    (f'', taken.or later)

/-- The link has taken a command and has its answer ready; a status other than OK has no results (R14, R15). -/
def reply (m : Master) (st : Status) (results : List Byte) (s : State) : State :=
  s.onLink m fun c => { c with framing := .answering, answer := some ⟨st, if st = .ok then results else []⟩ }

/-- Turnaround, status, result length and results, in the order the link drives them once it has taken a command
(R14). -/
def Answer.bytes (x : Answer) : List Byte :=
  [0xFF#8, 0xFF#8, x.status.code, BitVec.ofNat 8 x.results.length] ++ x.results

/-- The byte a link drives when the master clocks one more: FFh until its command is taken, and from then on, `k`
bytes having been clocked since, the bytes of the answer and FFh after the last of them (R14). -/
def ControlLink.drives (c : ControlLink) (k : Nat) : Byte :=
  match c.framing with
  | .answering => (((c.answer.map Answer.bytes).getD [])[k]?).getD 0xFF#8
  | .idle => 0xFF#8
  | .coded _ => 0xFF#8
  | .receiving _ _ _ => 0xFF#8

/-- The order of R161 up to step 3, then the command's own part on its argument bytes. -/
def takeCommand (m : Master) (x : Args) (s : State) (own : List Byte → State) : State :=
  match x with
  | .overlong _ => reply m .badLength [] s
  | .taken bytes =>
    if Config.maxArgs < bytes.length then reply m .badLength [] s
    else if s.ready = false then reply m .busy [] s
    else own bytes

/-- A command with `n` argument bytes of its own (R161 step 5). -/
def takeFixed (m : Master) (n : Nat) (x : Args) (s : State) (own : List Byte → State) : State :=
  takeCommand m x s fun bytes => if bytes.length ≠ n then reply m .badLength [] s else own bytes

end Sys2Proof.Machine
end

