-- ==== Sys2Proof/Machine/Judgment.lean ====
section
/-! DEFINITION. Twin judgment (chapter 4): placement in the window, the verdicts, open pairs, miss runs and lane
states. -/

namespace Sys2Proof.Machine

/-! ## Placement (R56) -/

/-- Where the window places a copy. -/
inductive Placement where
  | newer (d : Nat)
  | inside (offset : Nat)
  | stale
deriving DecidableEq, Repr

/-- The sequence distance from the highest accepted sequence, modulo 65,536 (R56). -/
def seqDistance (highest seq : SeqNo) : Nat := (seq - highest).toNat

/-- Placement by sequence distance (R56). -/
def place (highest seq : SeqNo) : Placement :=
  let d := seqDistance highest seq
  if d = 0 then .inside 0
  else if d ≤ 32767 then .newer d
  else if 65536 - d ≤ 63 then .inside (65536 - d)
  else .stale

/-- How far a sequence lies behind the highest, modulo 65,536. -/
def offsetBehind (highest seq : SeqNo) : Nat := (highest - seq).toNat

/-! ## Miss runs and lane states (R72 to R75) -/

/-- The lane state that two miss runs give under the loss limit (R75). -/
def laneStateOf (limit : Nat) (miss : PerLane Nat) : LaneState :=
  if miss.a < limit then (if miss.b < limit then .paired else .loneA)
  else (if miss.b < limit then .loneB else .fragmented)

/-- The lane state recomputed from the miss runs; Silent overrides (R75). -/
def Origin.relane (limit : Nat) (r : Origin) : Origin :=
  if r.lane.state = .silent then r
  else { r with lane := { r.lane with state := laneStateOf limit r.lane.miss } }

/-- A miss run one higher, staying at 255 (R73). -/
def missRise (n : Nat) : Nat := if n < 255 then n + 1 else n

/-- The misses count of a lane (R53). -/
def OriginCounts.miss (x : Lane) (c : OriginCounts) : OriginCounts :=
  match x with
  | .a => { c with missA := c.missA + 1 }
  | .b => { c with missB := c.missB + 1 }

/-- A miss of lane `x` charged to the origin (R73). -/
def Origin.chargeMiss (limit : Nat) (x : Lane) (r : Origin) : Origin :=
  Origin.relane limit
    { r with lane := { r.lane with miss := r.lane.miss.set x (missRise (r.lane.miss.get x)) },
             cnt := r.cnt.miss x }

/-- The miss run of lane `x` cleared (R61, R66). -/
def Origin.clearMiss (limit : Nat) (x : Lane) (r : Origin) : Origin :=
  Origin.relane limit { r with lane := { r.lane with miss := r.lane.miss.set x 0 } }

/-- A record together with the line ports, which a closing may charge. -/
structure Closing where
  lines : PerLane LinePort
  orig  : Origin
deriving DecidableEq, Repr

/-- A pair closed missing the lane other than its first, charged by the state of that lane's port (R72, R74). -/
def Closing.closeMissing (limit : Nat) (p : OpenPair) (c : Closing) : Closing :=
  let x := otherLane p.first
  let port := c.lines.get x
  if port.unavailable then
    { c with lines := c.lines.set x { port with cnt := { port.cnt with missUnavail := port.cnt.missUnavail + 1 } } }
  else { c with orig := c.orig.chargeMiss limit x }

/-- Pairs closed missing one after another, in list order. -/
def Closing.closeAll (limit : Nat) : List OpenPair → Closing → Closing
  | [], c => c
  | p :: ps, c => Closing.closeAll limit ps (c.closeMissing limit p)

/-- The record's open-pair list replaced. -/
def Closing.withPairs (ps : List OpenPair) (c : Closing) : Closing :=
  { c with orig := { c.orig with win := { c.orig.win with pairs := ps } } }

/-! ## Acceptance (R66, R68, R70) -/

/-- A copy as judgment sees it (R6). -/
structure Copy where
  port : Lane
  seq  : SeqNo
  tick : Tick
deriving DecidableEq, Repr

/-- The settings judgment reads: the loss limit N and the pair timeout in ms. -/
structure JudgeSettings where
  limit   : Nat
  timeout : Nat
deriving DecidableEq, Repr

/-- The open pair of an accepted copy; a millisecond is 10,000 ticks (R66, R68). -/
def openPair (g : JudgeSettings) (k : Copy) : OpenPair :=
  ⟨k.seq, k.port, k.tick, k.tick + BitVec.ofNat 32 (g.timeout * 10000)⟩

/-- The oldest pair closed missing when the list holds eight (R70). -/
def Closing.displace (limit : Nat) (c : Closing) : Closing :=
  match c.orig.win.pairs with
  | [] => c
  | p :: ps =>
    if Config.maxPairs ≤ c.orig.win.pairs.length then (c.closeMissing limit p).withPairs ps else c

/-- An acceptance: displacement when needed, the new pair at the tail, the miss run of the copy's port cleared,
the accepted count, the stale run (R66). -/
def Closing.accept (g : JudgeSettings) (k : Copy) (c : Closing) : Closing :=
  let d := c.displace g.limit
  let r := d.orig
  let r := { r with win := { r.win with pairs := r.win.pairs ++ [openPair g k], staleRun := 0 },
                    cnt := { r.cnt with accepted := r.cnt.accepted + 1 } }
  { d with orig := r.clearMiss g.limit k.port }

/-! ## The verdicts (R57) -/

/-- The verdicts of R57. -/
inductive Verdict where
  | seed
  | newer
  | outOfOrder
  | twin
  | sameLaneRepeat
  | lateDuplicate
  | staleDiscard
  | resync
deriving DecidableEq, Repr

/-- Seed, newer, out-of-order first copy and resync are acceptances (R57). -/
def Verdict.accepted : Verdict → Bool
  | .seed => true
  | .newer => true
  | .outOfOrder => true
  | .resync => true
  | .twin => false
  | .sameLaneRepeat => false
  | .lateDuplicate => false
  | .staleDiscard => false

/-- What judgment leaves: the verdict, the record and the ports, and the pair a twin completed. -/
structure Judged where
  verdict   : Verdict
  closing   : Closing
  completed : Option OpenPair
deriving DecidableEq, Repr

/-- A window seeded at a sequence, with no open pair (R58, R65). -/
def Window.seedAt (seq : SeqNo) (w : Window) : Window :=
  { w with seeded := true, highest := seq, delivered := 1, pairs := [], staleRun := 0 }

/-- R58, with R48's end of the Silent state. -/
def judgeSeed (g : JudgeSettings) (k : Copy) (c : Closing) : Judged :=
  let r := { c.orig with win := c.orig.win.seedAt k.seq,
                         lane := { c.orig.lane with miss := ⟨0, 0⟩, state := .paired } }
  ⟨.seed, { c with orig := r }.accept g k, none⟩

/-- R59, with R71's closing of the pairs that fall out of the window. -/
def judgeNewer (g : JudgeSettings) (k : Copy) (d : Nat) (c : Closing) : Judged :=
  let behind := fun p : OpenPair => decide (63 < offsetBehind k.seq p.seq)
  let gone := c.orig.win.pairs.filter behind
  let kept := c.orig.win.pairs.filter fun p => !behind p
  let w := { c.orig.win with highest := k.seq, delivered := (c.orig.win.delivered <<< d) ||| 1, pairs := kept }
  let moved : Closing := { c with orig := { c.orig with win := w } }
  ⟨.newer, (moved.closeAll g.limit gone).accept g k, none⟩

/-- R60. -/
def judgeOutOfOrder (g : JudgeSettings) (k : Copy) (offset : Nat) (c : Closing) : Judged :=
  let w := { c.orig.win with delivered := c.orig.win.delivered ||| (1#64 <<< offset) }
  ⟨.outOfOrder, { c with orig := { c.orig with win := w } }.accept g k, none⟩

/-- R61. -/
def judgeTwin (g : JudgeSettings) (k : Copy) (p : OpenPair) (c : Closing) : Judged :=
  let w := { c.orig.win with pairs := c.orig.win.pairs.filter (fun q => decide (q.seq ≠ p.seq)), staleRun := 0 }
  let r := { c.orig with win := w, cnt := { c.orig.cnt with twins := c.orig.cnt.twins + 1 } }
  ⟨.twin, { c with orig := r.clearMiss g.limit k.port }, some p⟩

/-- R62. -/
def judgeRepeat (c : Closing) : Judged :=
  let r := { c.orig with win := { c.orig.win with staleRun := 0 },
                         cnt := { c.orig.cnt with repeats := c.orig.cnt.repeats + 1 } }
  ⟨.sameLaneRepeat, { c with orig := r }, none⟩

/-- The late duplicates count of a port (R63). -/
def OriginCounts.late (x : Lane) (c : OriginCounts) : OriginCounts :=
  match x with
  | .a => { c with lateA := c.lateA + 1 }
  | .b => { c with lateB := c.lateB + 1 }

/-- R63. -/
def judgeLate (k : Copy) (c : Closing) : Judged :=
  let r := { c.orig with win := { c.orig.win with staleRun := 0 }, cnt := c.orig.cnt.late k.port }
  ⟨.lateDuplicate, { c with orig := r }, none⟩

/-- R64. -/
def judgeStale (c : Closing) : Judged :=
  let r := { c.orig with win := { c.orig.win with staleRun := c.orig.win.staleRun + 1 },
                         cnt := { c.orig.cnt with stale := c.orig.cnt.stale + 1 } }
  ⟨.staleDiscard, { c with orig := r }, none⟩

/-- R65. -/
def judgeResync (g : JudgeSettings) (k : Copy) (c : Closing) : Judged :=
  let n := BitVec.ofNat 32 c.orig.win.pairs.length
  let cnt := { c.orig.cnt with abandoned := c.orig.cnt.abandoned + n, resyncs := c.orig.cnt.resyncs + 1 }
  let r := { c.orig with win := c.orig.win.seedAt k.seq, cnt := cnt }
  ⟨.resync, { c with orig := r }.accept g k, none⟩

/-- The open pair of a sequence. -/
def Window.pairOf (w : Window) (seq : SeqNo) : Option OpenPair := w.pairs.find? fun p => decide (p.seq = seq)

/-- The table of R57. -/
def judge (g : JudgeSettings) (k : Copy) (c : Closing) : Judged :=
  let w := c.orig.win
  if w.seeded = false then judgeSeed g k c
  else
    match place w.highest k.seq with
    | .newer d => judgeNewer g k d c
    | .inside offset =>
      if w.delivered.getLsbD offset = false then judgeOutOfOrder g k offset c
      else
        match w.pairOf k.seq with
        | none => judgeLate k c
        | some p => if p.first = k.port then judgeRepeat c else judgeTwin g k p c
    | .stale => if w.staleRun < 2 then judgeStale c else judgeResync g k c

/-- The refresh of a judged copy (R46). -/
def Origin.refresh (k : Copy) (r : Origin) : Origin :=
  { r with lane := { r.lane with last := r.lane.last.set k.port (some k.tick), lastFrame := some k.tick },
           silence := some r.cfg.silence,
           forget := if r.learned then r.forgetTime else r.forget }

/-! ## Pair expiry and silence (R69, R47) -/

/-- Whether tick `x` comes before tick `y`, by their difference modulo 2^32 (log 9). -/
def tickBefore (x y : Tick) : Bool := (x - y).msb

/-- The open pair whose expiry falls due first; of equal expiries the oldest first arrival (R69, log 9). -/
def firstDue : List OpenPair → Option OpenPair
  | [] => none
  | p :: ps =>
    match firstDue ps with
    | none => some p
    | some q => if tickBefore q.expiry p.expiry then some q else some p

/-- A pair expiry: the pair due first is closed missing its other lane and leaves the list (R69). -/
def Closing.expirePair (limit : Nat) (p : OpenPair) (c : Closing) : Closing :=
  let ps := c.orig.win.pairs.filter fun q => decide (q.seq ≠ p.seq)
  (c.closeMissing limit p).withPairs ps

/-- The record's part of a silence expiry, steps 1 to 4 and 6 of R47. -/
def Closing.fallSilent (limit : Nat) (c : Closing) : Closing :=
  let d := c.closeAll limit c.orig.win.pairs
  let r := d.orig
  { d with orig := { r with win := { r.win with seeded := false, delivered := 0, pairs := [], staleRun := 0 },
                            lane := { r.lane with state := .silent },
                            silence := none } }

end Sys2Proof.Machine
end

