-- ==== Sys2Proof/Machine/Skew.lean ====
section
/-! DEFINITION. Skew supervision (chapter 5): the sample, the seven stages, hold and rebase, and what an apply does
to a pipeline. Integer division here rounds toward minus infinity, as the manual's does. -/

namespace Sys2Proof.Machine

/-- A value limited to `-m .. m`. -/
def clampMag (m v : Int) : Int := max (-m) (min m v)

/-- The elapsed time of a pair, with its sign: lane B's arrival less lane A's (R81). -/
def skewSample (first : Lane) (t1 t2 : Tick) : Int :=
  match first with
  | .a => ((t2 - t1).toNat : Int)
  | .b => -((t2 - t1).toNat : Int)

/-- Whether a sample saturates (R82). -/
def saturates (s : Int) : Bool := decide (Config.maxSample < s) || decide (s < -Config.maxSample)

/-- The working value of a sample, in sixteenths, after saturation (R82). -/
def workingValue (s : Int) : Int := 16 * clampMag Config.maxSample s

/-- A level's rank: Steady, Drift, Excess, Gross. -/
def Level.rank : Level → Nat
  | .steady => 0
  | .drift => 1
  | .excess => 2
  | .gross => 3

/-- Excess or Gross. -/
def Level.high (l : Level) : Bool := decide (2 ≤ l.rank)

/-- The spike clamp's part of stage 2: the value and whether it was altered (R84). -/
def spikeClamp (cfg : OriginSettings) (f v : Int) : Int × Bool :=
  let l : Int := 16 * cfg.spike
  if cfg.hi = true ∧ f + l < v then (f + l, true)
  else if cfg.lo = true ∧ v < f - l then (f - l, true)
  else (v, false)

/-- Stage 3: a fraction of the way toward the working value (R85). -/
def filterStep (k : Nat) (f v : Int) : Int := f + (v - f) / (2 ^ k : Nat)

/-- One Auto baseline step (R86). -/
def baselineStep (j : Nat) (base f : Int) : Int := base + (f - base) / (2 ^ j : Nat)

/-- The sign of a deviation (R92). -/
def directionOf (dev : Int) : Direction :=
  if 0 < dev then .bLate else if dev < 0 then .aLate else .neither

/-- The hysteresis band of a threshold, in sixteenths (R93). -/
def bandOf (b : HysteresisBand) (t : Nat) : Nat :=
  match b with
  | .eighth => 2 * t
  | .sixteenth => t

/-- The threshold of a level (R93); Steady has none. -/
def thresholdOf (cfg : OriginSettings) : Level → Nat
  | .steady => 0
  | .drift => cfg.t1
  | .excess => cfg.t2
  | .gross => cfg.t3

/-- Whether a deviation qualifies for a level, from the current level (R93). -/
def qualifies (band : HysteresisBand) (cfg : OriginSettings) (current : Level) (dev : Int) (l : Level) : Bool :=
  let t := thresholdOf cfg l
  match l with
  | .steady => true
  | _ => if current.rank < l.rank then decide (16 * t ≤ dev.natAbs) else decide (16 * t ≤ dev.natAbs + bandOf band t)

/-- The candidate: the highest qualifying level (R93). -/
def candidateOf (band : HysteresisBand) (cfg : OriginSettings) (current : Level) (dev : Int) : Level :=
  if qualifies band cfg current dev .gross then .gross
  else if qualifies band cfg current dev .excess then .excess
  else if qualifies band cfg current dev .drift then .drift
  else .steady

/-- The debounce of stage 6 (R94). -/
def debounce (c : Nat) (cand : Level) (p : Pipeline) : Pipeline :=
  let p := if cand = p.cand then { p with candCount := if p.candCount < c then p.candCount + 1 else p.candCount }
           else { p with cand := cand, candCount := 1 }
  if c ≤ p.candCount ∧ p.cand ≠ p.level then { p with level := p.cand, candCount := 0 } else p

/-- Stage 7, from the level before the pair to the level after it (R96). -/
def holdStage (cfg : OriginSettings) (before : Level) (p : Pipeline) : Pipeline :=
  if p.level.high = false then { p with hold := none }
  else if cfg.mode = .auto ∧ before.high = false then { p with hold := some cfg.hold }
  else p

/-- The correction of a member: its lead's raw deviation weighted by w/64 (R91). -/
def correction (weight : Nat) (leadRaw : Int) : Int := leadRaw * weight / 64

/-- Stages 5 and 6 (R90 to R94). `leadRaw` is none where the record has no reference link. -/
def deviateAndClassify (band : HysteresisBand) (cfg : OriginSettings) (leadRaw : Option Int) (p : Pipeline) : Pipeline :=
  let raw := p.filtered - p.baseline
  let dev := clampMag Config.maxSkew <|
    match leadRaw with
    | some x => raw - correction cfg.weight x
    | none => raw
  let p := { p with raw := raw, dev := dev, dir := directionOf dev }
  debounce cfg.c (candidateOf band cfg p.level dev) p

/-- The values an origin in Off mode shows (R89, R99). -/
def Pipeline.offValues (p : Pipeline) : Pipeline :=
  { p with raw := 0, dev := 0, dir := .neither, level := .steady, cand := .steady, candCount := 0 }

/-- Stage 1 (R83): the first filtered value of an unseeded pipeline, and the baseline by mode. -/
def Pipeline.seedAt (cfg : OriginSettings) (v : Int) (p : Pipeline) : Pipeline :=
  let p := { p with seeded := true, filtered := v, level := .steady, cand := .steady, candCount := 0, decim := 0 }
  match cfg.mode with
  | .auto => { p with baseline := v }
  | .capture => { p with baseline := v }
  | .manual => p
  | .off => p

/-- Stage 4 by baseline mode (R86 to R88); Off sets nothing of the baseline. -/
def baselineStage (cfg : OriginSettings) (p : Pipeline) : Pipeline :=
  match cfg.mode with
  | .auto =>
    if cfg.m ≤ p.decim + 1 then
      if p.level.high then { p with decim := 0 }
      else { p with decim := 0, baseline := baselineStep cfg.j p.baseline p.filtered }
    else { p with decim := p.decim + 1 }
  | .capture => { p with baseline := p.filtered }
  | .manual => p
  | .off => p

/-- The settings after a pair: a capture completes into Manual with the captured baseline (R87). -/
def capturedSettings (cfg : OriginSettings) (p : Pipeline) : OriginSettings :=
  if cfg.mode = .capture then { cfg with mode := .manual, manual := p.baseline } else cfg

/-- The stages after the baseline: 5 to 7, or R89 and 7 in Off mode. -/
def laterStages (band : HysteresisBand) (cfg : OriginSettings) (leadRaw : Option Int) (before : Level)
    (p : Pipeline) : Pipeline :=
  if cfg.mode = .off then holdStage cfg before p.offValues
  else holdStage cfg before (deviateAndClassify band cfg leadRaw p)

/-- A completed pair processed by the monitor (R80): the record after it, and whether a capture completed. -/
def processPair (band : HysteresisBand) (leadRaw : Option Int) (first : Lane) (t1 t2 : Tick) (r : Origin) :
    Origin × Bool :=
  let s := skewSample first t1 t2
  let v := workingValue s
  let cnt := if saturates s then { r.cnt with saturated := r.cnt.saturated + 1 } else r.cnt
  if r.pipe.seeded = false then
    let p := r.pipe.seedAt r.cfg v
    ({ r with cnt := cnt, pipe := laterStages band r.cfg leadRaw .steady p, cfg := capturedSettings r.cfg p },
      decide (r.cfg.mode = .capture))
  else
    let (v, spiked) := spikeClamp r.cfg r.pipe.filtered v
    let v := clampMag Config.maxSkew v
    let cnt := if spiked then { cnt with spikes := cnt.spikes + 1 } else cnt
    let p := baselineStage r.cfg { r.pipe with filtered := filterStep r.cfg.k r.pipe.filtered v }
    ({ r with cnt := cnt, pipe := laterStages band r.cfg leadRaw r.pipe.level p, cfg := capturedSettings r.cfg p },
      decide (r.cfg.mode = .capture))

/-- The raw deviation a member reads from its lead: 0 when the lead is in Off mode or unseeded, and when there is
no such record (R91; log 23); none without a reference link. -/
def leadRawOf (origins : List (Nat × Origin)) (cfg : OriginSettings) : Option Int :=
  match cfg.ref with
  | none => none
  | some i =>
    match tabGet origins i with
    | none => some 0
    | some lead => if lead.cfg.mode = .off ∨ lead.pipe.seeded = false then some 0 else some lead.pipe.raw

/-- A rebase (R97). -/
def Pipeline.rebase (p : Pipeline) : Pipeline :=
  { p with baseline := p.filtered, raw := 0, dev := 0, dir := .neither, level := .steady, cand := .steady,
           candCount := 0, hold := none }

/-! ## Changes by apply (section 5.10) -/

/-- The effect of a commit on a pipeline: a change of mode, or else a new manual baseline in Manual mode and a new hold
time for a hold timer that runs (R99, R100). -/
def commitPipeline (old new : OriginSettings) (p : Pipeline) : Pipeline :=
  if new.mode ≠ old.mode then
    match new.mode with
    | .off => { p.offValues with hold := none }
    | .auto => { p with hold := if p.level.high then some new.hold else none }
    | .manual => { p with baseline := new.manual, hold := none }
    | .capture => { p with hold := none }
  else
    { p with baseline := if new.mode = .manual ∧ new.manual ≠ old.manual then new.manual else p.baseline,
             hold := if p.hold.isSome = true ∧ new.hold ≠ old.hold then some new.hold else p.hold }

/-- The reseed-pipeline request, after the put's settings; a pipeline that is unseeded already is unchanged by it
(R101). -/
def reseedPipeline (cfg : OriginSettings) (p : Pipeline) : Pipeline :=
  if p.seeded = false then p
  else
    { p with seeded := false, filtered := 0, raw := 0, dev := 0, candCount := 0, decim := 0, dir := .neither,
             level := .steady, cand := .steady, hold := none,
             baseline := if cfg.mode = .manual then cfg.manual else 0 }

end Sys2Proof.Machine
end

