-- ==== Sys2Proof/Machine/Notify.lean ====
section
/-! DEFINITION. Origin notification (chapter 6): status, holds, comparison, notification and catch-up. -/

namespace Sys2Proof.Machine

/-- A record's status: level, direction and lane state (chapter 6, 6.1). -/
def Origin.status (r : Origin) : Notified := ⟨r.pipe.level, r.pipe.dir, r.lane.state⟩

/-- Whether a record's level and direction differences are held: it is a member and its lead is a suppressing
lead at Excess or Gross (R107). -/
def leadHolds (origins : List (Nat × Origin)) (r : Origin) : Bool :=
  match r.cfg.ref with
  | none => false
  | some i =>
    match tabGet origins i with
    | none => false
    | some lead => lead.cfg.suppress && lead.pipe.level.high

/-- The available lane state: R75 with the miss run of each lane whose port is Down or Settling taken as 0 (R109). -/
def availableLane (s : State) (r : Origin) : LaneState :=
  laneStateOf s.globals.lossLimit
    ⟨if s.lines.a.unavailable then 0 else r.lane.miss.a, if s.lines.b.unavailable then 0 else r.lane.miss.b⟩

/-- Lone-A, Lone-B or Fragmented. -/
def LaneState.lossy : LaneState → Bool
  | .paired => false
  | .loneA => true
  | .loneB => true
  | .fragmented => true
  | .silent => false

/-- Whether a record's lane-state difference is held by an unavailable port (R109). When neither port is Down or
Settling nothing is held. -/
def portHolds (s : State) (r : Origin) : Bool :=
  (s.lines.a.unavailable || s.lines.b.unavailable) && r.lane.state.lossy &&
    decide (availableLane s r = r.notif.lane)

/-- The notification part after a notification: each field whose difference is not held takes its current value
(R104). -/
def caughtUp (s : State) (r : Origin) : Notified :=
  { level := if leadHolds s.origins r then r.notif.level else r.pipe.level,
    dir := if leadHolds s.origins r then r.notif.dir else r.pipe.dir,
    lane := if portHolds s r then r.notif.lane else r.lane.state }

/-- A record's comparison at the end of an event (R105): it notifies when some difference is not held, or when the
event is itself a cause of notification (`cause`, R106). -/
def compareAt (cause : Bool) (i : Nat) (s : State) : State :=
  match originAt s i with
  | none => s
  | some r =>
    if cause = true ∨ caughtUp s r ≠ r.notif then markChange i (s.setOrigin i { r with notif := caughtUp s r })
    else s

/-- Comparisons of several records, in the order given. -/
def compareEach : List Nat → State → State
  | [], s => s
  | i :: is, s => compareEach is (compareAt false i s)

/-- The members of a lead, lowest index first (R110). -/
def membersOf (s : State) (lead : Nat) : List Nat :=
  (s.origins.filter fun e => decide (e.2.cfg.ref = some lead)).map Prod.fst

/-- The comparison of every record in the table (R111, R112). -/
def compareAll (s : State) : State := compareEach (tabKeys s.origins) s

/-- The end of an event that changed record `i`: its own comparison, and when it is a suppressing lead whose level
fell below Excess, its members' (R105, R110). `before` is its level before the event. -/
def endEvent (cause : Bool) (before : Level) (i : Nat) (s : State) : State :=
  let s := compareAt cause i s
  match originAt s i with
  | none => s
  | some r =>
    if r.cfg.suppress = true ∧ before.high = true ∧ r.pipe.level.high = false then compareEach (membersOf s i) s
    else s

end Sys2Proof.Machine
end

