-- ==== Sys2Proof/Machine/Origins.lean ====
section
/-! DEFINITION. The origin table (chapter 3): creation, removal, refresh, and the judgment of a copy as one event;
the meanings of the record timers' expiries. -/

namespace Sys2Proof.Machine

/-! ## New records (R36, R37, R103) -/

/-- A window never seeded (R37, R55; the highest sequence is log 8). -/
def Window.fresh : Window := ⟨false, 0, 0, [], 0⟩

/-- The lane part of a record that has had no copy (R37). -/
def LanePart.fresh : LanePart := ⟨⟨0, 0⟩, .silent, ⟨none, none⟩, none⟩

/-- A new pipeline; its baseline is the manual baseline in Manual mode and 0 otherwise (R37, R79). -/
def Pipeline.fresh (cfg : OriginSettings) : Pipeline :=
  ⟨false, 0, if cfg.mode = .manual then cfg.manual else 0, 0, 0, .neither, .steady, .steady, 0, 0, none⟩

/-- The notification part of a record that begins Silent (R103). -/
def Notified.fresh : Notified := ⟨.steady, .neither, .silent⟩

/-- A new record with no copy yet and no timer running (R37). -/
def Origin.fresh (addr : Addr) (owners : PerMaster Bool) (cfg : OriginSettings) : Origin where
  addr := addr
  owners := owners
  cfg := cfg
  forgetTime := none
  note := none
  win := .fresh
  lane := .fresh
  pipe := .fresh cfg
  notif := .fresh
  cnt := .zero
  silence := none
  forget := none

/-- The settings part of a learned record, from the learned profile as it stands (R36). -/
def learnedSettings (p : Profile) : OriginSettings where
  mode := p.mode
  manual := 0
  k := p.k
  j := p.j
  m := p.m
  t1 := p.t1
  t2 := p.t2
  t3 := p.t3
  c := p.c
  spike := p.spike
  hi := p.hi
  lo := p.lo
  hold := p.hold
  ref := none
  weight := 0
  suppress := false
  silence := p.silence

/-- A learned record before any copy is judged against it; its forget timer runs (R36, R37). -/
def Origin.learn (p : Profile) (addr : Addr) (note : LearningNote) : Origin :=
  { Origin.fresh addr ⟨false, false⟩ (learnedSettings p) with
    forgetTime := some p.forget, note := some note, forget := some p.forget }

/-! ## Creation and removal -/

/-- Whether the table holds 256 records (R33). -/
def tableFull (s : State) : Bool := decide (Config.maxOrigins ≤ s.origins.length)

/-- A record put into the lowest free index; TABLE FULL when that takes the table from 255 records to 256 (R34,
R44). Its notification is the caller's. -/
def placeOrigin (r : Origin) (s : State) : State :=
  let s' := s.setOrigin (tabFree s.origins) r
  if s.origins.length + 1 = Config.maxOrigins then raiseBoth .tableFull s' else s'

/-- A creation that begins Silent, notified to both masters (R37, R52, R106). -/
def createSilent (r : Origin) (s : State) : State := markChange (tabFree s.origins) (placeOrigin r s)

/-- A removal (R50): the record goes with its pairs, timers and counters, leaves the silent order, and its index
is notified. -/
def removeOrigin (i : Nat) (s : State) : State :=
  markChange i { s with origins := tabErase s.origins i, silentOrder := s.silentOrder.erase i }

/-! ## The judgment of a copy as one event (R57) -/

/-- The settings judgment reads. -/
def judgeSettings (g : Globals) : JudgeSettings := ⟨g.lossLimit, g.pairTimeout⟩

/-- The record after judgment, a completed pair's skew pipeline and the refresh, and whether a capture completed
(R57, R80, R87, R46). -/
def afterJudgment (s : State) (k : Copy) (j : Judged) : Origin × Bool :=
  let (r, captured) :=
    match j.completed with
    | some p => processPair s.globals.band (leadRawOf s.origins j.closing.orig.cfg) p.first p.tick k.tick j.closing.orig
    | none => (j.closing.orig, false)
  (r.refresh k, captured)

/-- One copy judged against the record at index `i` (R57). `created` says the same event created the record. -/
def judgeCopy (created : Bool) (i : Nat) (r : Origin) (k : Copy) (s : State) : State × Verdict :=
  let j := judge (judgeSettings s.globals) k ⟨s.lines, r⟩
  let (r', captured) := afterJudgment s k j
  let order := if j.verdict = .seed then s.silentOrder.erase i else s.silentOrder
  let s' := { s with lines := j.closing.lines, silentOrder := order, origins := tabPut s.origins i r' }
  (endEvent (created || captured) r.pipe.level i s', j.verdict)

/-- What the pair filter makes of a tagged frame that is not an echo: an overflow frame, or a copy of the record
at an index with its verdict (R39, R41). -/
inductive Filtered where
  | overflow
  | judged (index : Nat) (verdict : Verdict)
deriving DecidableEq, Repr

/-- The record learned from a frame, before its creating copy is judged (R40). -/
def learnedFrom (addr : Addr) (k : Copy) (s : State) : Origin :=
  Origin.learn s.globals.profile addr (.frameOn k.port)

/-- The creating copy judged against the record that the same event put at index `i` (R40). -/
def judgeCreated (i : Nat) (r : Origin) (k : Copy) (s : State) : State × Filtered :=
  let (s', v) := judgeCopy true i r k s
  (s', .judged i v)

/-- The record at the head of the silent order removed and a new one put in its index: the table stays full
throughout, so TABLE FULL is not raised (R42, R44). -/
def evictFor (head : Nat) (r : Origin) (s : State) : State := (removeOrigin head s).setOrigin head r

/-- Lookup, learning, eviction or overflow, then judgment: one event at the table (R39, R42). -/
def filterCopy (addr : Addr) (k : Copy) (s : State) : State × Filtered :=
  match findOrigin s addr with
  | some (i, r) =>
    let (s', v) := judgeCopy false i r k s
    (s', .judged i v)
  | none =>
    let r := learnedFrom addr k s
    if groupBit addr = true ∨ s.globals.learning = false then (s, .overflow)
    else if tableFull s = false then judgeCreated (tabFree s.origins) r k (placeOrigin r s)
    else
      match s.silentOrder with
      | [] => (s, .overflow)
      | head :: _ => judgeCreated head r k (evictFor head r s)

/-! ## Proxies (R51, R52) -/

/-- One proxy of a well-formed roll-call accepted from the record at index `announcer`, taken in on a port. The rows
of R51 are read from the top (log 12). -/
def takeProxy (announcer : Nat) (port : Lane) (addr : Addr) (s : State) : State :=
  match findOrigin s addr with
  | some (i, r) => if r.learned then s.setOrigin i { r with forget := r.forgetTime } else s
  | none =>
    if ownAddress s addr = true ∨ groupBit addr = true then s
    else if s.globals.learning = false ∨ tableFull s = true then
      s.countLine port fun c => { c with proxySkipped := c.proxySkipped + 1 }
    else
      let i := tabFree s.origins
      let s' := createSilent (Origin.learn s.globals.profile addr (.rollCallOf announcer)) s
      { s' with silentOrder := s'.silentOrder ++ [i] }

/-- The proxy list, in order, each proxy against the table as the earlier ones left it (R51, R52). -/
def takeProxies (announcer : Nat) (port : Lane) : List Addr → State → State
  | [], s => s
  | a :: as, s => takeProxies announcer port as (takeProxy announcer port a s)

/-! ## Expiries (R47, R49, R69, R97) -/

/-- PAIR_EXPIRY: the record's open pair due first closes missing its other lane (R69). -/
def pairExpiryEffect (i : Nat) (s : State) : State :=
  match originAt s i with
  | none => s
  | some r =>
    match firstDue r.win.pairs with
    | none => s
    | some p =>
      let c := Closing.expirePair s.globals.lossLimit p ⟨s.lines, r⟩
      endEvent false r.pipe.level i { s with lines := c.lines, origins := tabPut s.origins i c.orig }

/-- SILENCE_EXPIRY: the record becomes Silent, and a learned one joins the tail of the silent order (R47). -/
def silenceExpiryEffect (i : Nat) (s : State) : State :=
  match originAt s i with
  | none => s
  | some r =>
    if r.silence = none then s
    else
      let c := Closing.fallSilent s.globals.lossLimit ⟨s.lines, r⟩
      let order := if r.learned then s.silentOrder.erase i ++ [i] else s.silentOrder
      endEvent false r.pipe.level i
        { s with lines := c.lines, silentOrder := order, origins := tabPut s.origins i c.orig }

/-- FORGET_EXPIRY: a learned record whose forget timer runs is removed (R49). -/
def forgetExpiryEffect (i : Nat) (s : State) : State :=
  match originAt s i with
  | none => s
  | some r => if r.forget = none then s else removeOrigin i s

/-- HOLD_EXPIRY: a running hold timer with an expiry rebases its record, which notifies with cause rebased (R96,
R97). -/
def holdExpiryEffect (i : Nat) (s : State) : State :=
  match originAt s i with
  | none => s
  | some r =>
    if r.pipe.hold = none ∨ r.pipe.hold = some Config.holdNever then s
    else endEvent true r.pipe.level i (s.setOrigin i { r with pipe := r.pipe.rebase })

end Sys2Proof.Machine
end

