-- ==== Sys2Proof/Machine/LinePorts.lean ====
section
/-! DEFINITION. Line ports and lane assurance (chapter 7): link loss and return, settling, probing, assurance,
announcements and egress; the meanings of the commands on a line port and of the roll-call timer. -/

namespace Sys2Proof.Machine

/-! ## States (R116 to R119) -/

/-- The empty assurance run (R120). -/
def AssuranceRun.empty : AssuranceRun := ⟨none, 0⟩

/-- Entry into Probing (R119): probe-limit timer, empty assurance run. -/
def LinePort.probing (limit : Nat) (p : LinePort) : LinePort :=
  { p with state := .probing, settle := none, probe := some limit, run := .empty }

/-- A port leaves Settling for Probing: LANE PORT, then the port catch-up of the whole table (R119, R111). -/
def enterProbing (l : Lane) (s : State) : State :=
  compareAll (raiseBoth .lanePort (s.onLine l (.probing s.globals.probeLimit)))

/-- Link-up of a port that is Down (R118): Settling, settle timer, lane-up seconds from 0, LANE PORT; with a settle
time of 0 on to Probing in the same event. -/
def lineUp (l : Lane) (s : State) : State :=
  let s' := raiseBoth .lanePort
    (s.onLine l fun p => { p with state := .settling, settle := some s.globals.settleTime, laneUp := 0 })
  if s.globals.settleTime = 0 then enterProbing l s' else s'

/-- The frames of both queues removed and counted (R117 step 1). -/
def LinePort.flushed (p : LinePort) : LinePort :=
  { p with prot := [], back := [],
           cnt := { p.cnt with flush := p.cnt.flush + BitVec.ofNat 32 (p.prot.length + p.back.length) } }

/-- A line port as entry into Down leaves it, steps 1 to 4 of R117. -/
def LinePort.wentDown (p : LinePort) : LinePort :=
  { p.flushed with state := .down, unconfirmed := false, run := .empty, linkFail := none, settle := none,
                   probe := none }

/-- Entry into Down (R117). -/
def lineDown (l : Lane) (s : State) : State :=
  raiseBoth .lanePort (raiseBoth .linkLost (s.onLine l .wentDown))

/-- The transmitted count of a queue (R128). -/
def LineCounts.transmitted (q : QueueKind) (c : LineCounts) : LineCounts :=
  match q with
  | .protection => { c with txProt := c.txProt + 1 }
  | .background => { c with txBack := c.txBack + 1 }

/-- The frame in transmission, if any, leaves the port counted as transmitted (R128). -/
def LinePort.endSending (p : LinePort) : LinePort :=
  match p.sending with
  | none => p
  | some f => { p with sending := none, cnt := p.cnt.transmitted f.queue }

/-- LINE_LINK_LOSS (R116): the link-fail timer starts, or with a time of 0 the port becomes Down at once; a frame on
the wire ends there and counts as transmitted (R128). -/
def lineLossEffect (l : Lane) (s : State) : State :=
  if (s.lines.get l).linkPresent = false then s
  else
    let s' := s.onLine l .endSending
    if s.globals.linkFailTime = 0 then lineDown l s'
    else s'.onLine l fun p => { p with linkFail := some s.globals.linkFailTime }

/-- GLITCH (R116): link returns while the link-fail timer runs. -/
def glitchEffect (l : Lane) (s : State) : State :=
  if (s.lines.get l).linkFail = none then s
  else s.onLine l fun p => { p with linkFail := none, cnt := { p.cnt with glitch := p.cnt.glitch + 1 } }

/-- LINK_FAIL_EXPIRY (R117). -/
def linkFailEffect (l : Lane) (s : State) : State :=
  if (s.lines.get l).linkFail = none then s else lineDown l s

/-- LINE_LINK_UP (R118). -/
def lineUpEffect (l : Lane) (s : State) : State :=
  if (s.lines.get l).state = .down then lineUp l s else s

/-- SETTLE_EXPIRY (R119). -/
def settleEffect (l : Lane) (s : State) : State :=
  if (s.lines.get l).state = .settling ∧ (s.lines.get l).settle.isSome = true then enterProbing l s else s

/-- PROBE_LIMIT_EXPIRY (R123). -/
def probeLimitEffect (l : Lane) (s : State) : State :=
  if (s.lines.get l).state = .probing ∧ (s.lines.get l).probe.isSome = true then
    raiseBoth .lanePort (s.onLine l fun p => { p with unconfirmed := true, probe := none })
  else s

/-! ## Lane assurance (R120, R121) -/

/-- The run after one more roll-call of a code (R120). -/
def AssuranceRun.add (code : Lane) (r : AssuranceRun) : AssuranceRun :=
  if r.code = some code then { r with len := if r.len < 3 then r.len + 1 else r.len } else ⟨some code, 1⟩

/-- The state a run of length 3 names (R121). -/
def AssuranceRun.names (l : Lane) (r : AssuranceRun) : Option PortState :=
  if r.len = 3 then
    match r.code with
    | some c => some (if c = l then .confirmed else .crossed)
    | none => none
  else none

/-- The decision after a counted roll-call (R121). -/
def decidePort (l : Lane) (s : State) : State :=
  let p := s.lines.get l
  match p.run.names l with
  | none => s
  | some st =>
    if st = p.state then s
    else
      let s' := raiseBoth .lanePort
        (s.setLine l { p with state := st,
                              probe := if p.state = .probing then none else p.probe,
                              unconfirmed := if p.state = .probing then false else p.unconfirmed })
      if st = .crossed then raiseBoth .crossed s' else s'

/-- A roll-call that counts, with its lane code, at the port that took it in (R120). -/
def countAssurance (l : Lane) (code : Lane) (s : State) : State :=
  let p := s.lines.get l
  if p.unavailable then s
  else
    decidePort l
      (s.setLine l { p with run := p.run.add code, cnt := { p.cnt with assurance := p.cnt.assurance + 1 } })

/-! ## Announcements (R124, R125) -/

/-- The known bay station addresses, bay port 1's first (R10). -/
def knownStations (s : State) : List Addr := s.bays.one.station.toList ++ s.bays.two.station.toList

/-- A moment of announcement (R124): a roll-call built, numbered and offered when a line port is not Down; the
timer restarts in either case. -/
def announce (s : State) : State :=
  let s' := { s with rollTimer := some s.globals.rollInterval }
  if s.lines.a.state = .down ∧ s.lines.b.state = .down then s'
  else
    offerLanes s.rollSeq .rollCall (rollCallBody s.station s.globals.rollInterval (knownStations s))
      { s' with rollSeq := s.rollSeq + 1 }

/-- ROLL_CALL_TIMER_EXPIRY (R124). -/
def rollTimerEffect (s : State) : State := if s.rollTimer = none then s else announce s

/-! ## Egress (R127, R128) -/

/-- The frame a line port takes next, protection strictly first, and the port as its transmission begins (R127). -/
def LinePort.takeNext (p : LinePort) : LinePort :=
  match p.prot, p.back with
  | f :: fs, _ => { p with prot := fs, sending := some ⟨.protection, wireOf f.data⟩ }
  | [], f :: fs => { p with back := fs, sending := some ⟨.background, wireOf f.data⟩ }
  | [], [] => p

/-- LINE_TRANSMIT_START (R127): a port with link that is not transmitting takes its next frame. -/
def lineTransmitEffect (l : Lane) (s : State) : State :=
  if (s.lines.get l).linkPresent = true ∧ (s.lines.get l).sending = none then s.onLine l .takeNext else s

/-- LINE_TRANSMIT_DONE (R128). -/
def lineDoneEffect (l : Lane) (s : State) : State := s.onLine l .endSending

/-! ## The meanings of this family -/

/-- LINE_LINK_LOSS (R116). -/
def execLineLinkLoss (l : Lane) (s : State) : Host.Outcome State Fault Refusal := .next (lineLossEffect l s)

/-- GLITCH (R116). -/
def execGlitch (l : Lane) (s : State) : Host.Outcome State Fault Refusal := .next (glitchEffect l s)

/-- LINK_FAIL_EXPIRY (R117). -/
def execLinkFailExpiry (l : Lane) (s : State) : Host.Outcome State Fault Refusal := .next (linkFailEffect l s)

/-- LINE_LINK_UP (R118). -/
def execLineLinkUp (l : Lane) (s : State) : Host.Outcome State Fault Refusal := .next (lineUpEffect l s)

/-- SETTLE_EXPIRY (R119). -/
def execSettleExpiry (l : Lane) (s : State) : Host.Outcome State Fault Refusal := .next (settleEffect l s)

/-- PROBE_LIMIT_EXPIRY (R123). -/
def execProbeLimitExpiry (l : Lane) (s : State) : Host.Outcome State Fault Refusal := .next (probeLimitEffect l s)

/-- ROLL_CALL_TIMER_EXPIRY (R124). -/
def execRollCallTimerExpiry (s : State) : Host.Outcome State Fault Refusal := .next (rollTimerEffect s)

/-- LINE_TRANSMIT_START (R127). -/
def execLineTransmitStart (l : Lane) (s : State) : Host.Outcome State Fault Refusal := .next (lineTransmitEffect l s)

/-- LINE_TRANSMIT_DONE (R128). -/
def execLineTransmitDone (l : Lane) (s : State) : Host.Outcome State Fault Refusal := .next (lineDoneEffect l s)

/-- PAIR_EXPIRY (R69). -/
def execPairExpiry (i : Nat) (s : State) : Host.Outcome State Fault Refusal := .next (pairExpiryEffect i s)

/-- SILENCE_EXPIRY (R47). -/
def execSilenceExpiry (i : Nat) (s : State) : Host.Outcome State Fault Refusal := .next (silenceExpiryEffect i s)

/-- FORGET_EXPIRY (R49). -/
def execForgetExpiry (i : Nat) (s : State) : Host.Outcome State Fault Refusal := .next (forgetExpiryEffect i s)

/-- HOLD_EXPIRY (R97). -/
def execHoldExpiry (i : Nat) (s : State) : Host.Outcome State Fault Refusal := .next (holdExpiryEffect i s)

end Sys2Proof.Machine
end

