-- ==== Sys2Proof/Machine/Delivery.lean ====
section
/-! DEFINITION. Frames taken in from the lanes (chapters 1, 3 and 8): recognition, the pair filter, the roll-call
unit, delivery and bay egress; the alert unit's hold. -/

namespace Sys2Proof.Machine

/-! ## Delivery (R135, R136) -/

/-- Offer a frame to the bay ports a test picks, bay 1 first; each offer is decided by its own port (R137). -/
def offerWhere (pick : Master → Bool) (f : Frame) (s : State) : State :=
  let s1 := if pick .m1 then offerBay .m1 f s else s
  if pick .m2 then offerBay .m2 f s1 else s1

/-- A bay port whose policy is drop counts a frame to an unknown group (R135). -/
def countUnknown (m : Master) (s : State) : State :=
  match (s.bayCfg.get m).policy with
  | .deliver => s
  | .drop => s.countBay m fun c => { c with unknownDropped := c.unknownDropped + 1 }

/-- Whether a bay port holds a station address (R136). -/
def bayHolds (s : State) (a : Addr) (m : Master) : Bool := decide ((s.bays.get m).station = some a)

/-- The target bay ports of a lane frame by its destination, and the offers made to them (R135, R136). -/
def deliver (port : Lane) (dest : Addr) (f : Frame) (s : State) : State :=
  if dest = Config.broadcast then offerWhere (fun _ => true) f s
  else if isGroup dest then
    match findGroup s.groups dest with
    | some (_, g) => offerWhere g.members.get f s
    | none =>
      offerWhere (fun m => decide ((s.bayCfg.get m).policy = .deliver)) f (countUnknown .m2 (countUnknown .m1 s))
  else if bayHolds s dest .m1 || bayHolds s dest .m2 then offerWhere (bayHolds s dest) f s
  else s.countLine port fun c => { c with notForBay := c.notForBay + 1 }

/-! ## The roll-call unit (R11 to R13) -/

/-- One more malformed roll-call on a line port (R11, R13). -/
def countMalformed (port : Lane) (s : State) : State :=
  s.countLine port fun c => { c with rollMalformed := c.rollMalformed + 1 }

/-- A tagged roll-call, accepted from the record at an index or an overflow frame (R11, R12): checked, its proxies
used only when accepted, its lane code counted toward assurance. -/
def rollCallUnit (announcer : Option Nat) (port : Lane) (t : Tagged) (s : State) : State :=
  if rollCallWellFormed t.body then
    let s' :=
      match announcer with
      | some i => takeProxies i port (proxiesOf t.body) s
      | none => s
    countAssurance port t.code s'
  else countMalformed port s

/-- A tagged frame that judgment accepted (with its record's index) or that is an overflow frame is handed on: a
trip class reports to the alert unit (R57, R142), a roll-call goes to its unit, another class to the roll-call group
is malformed (R13), and the rest is delivered without its trailer (R9). -/
def handOn (announcer : Option Nat) (port : Lane) (t : Tagged) (s : State) : State :=
  let s' := if t.cls = .trip then tripReport s else s
  if t.cls = .rollCall then rollCallUnit announcer port t s'
  else if t.dest = Config.rollCallGroup then countMalformed port s'
  else deliver port t.dest ⟨t.cls, t.body⟩ s'

/-- An untagged frame (R8, R13, R135): it keeps all its bytes. -/
def untagged (port : Lane) (data : List Byte) (s : State) : State :=
  if destOf data = Config.rollCallGroup then countMalformed port s
  else deliver port (destOf data) ⟨classByTable s (destOf data), data⟩ s

/-- A tagged frame at the pair filter: echo, or lookup and what follows (R38, R39, R41). -/
def pairFilter (port : Lane) (t : Tagged) (s : State) : State :=
  if ownAddress s t.source then s.countLine port fun c => { c with echo := c.echo + 1 }
  else
    match filterCopy t.source ⟨port, t.seq, s.tick⟩ s with
    | (s', .overflow) => handOn none port t (s'.countLine port fun c => { c with overflow := c.overflow + 1 })
    | (s', .judged i v) => if v.accepted then handOn (some i) port t s' else s'

/-- LINE_FRAME_RECEIVE (R1, R4, R5): the arrival tick is the tick counter as it stands. -/
def lineFrameEffect (port : Lane) (f : RxFrame) (s : State) : State :=
  if (s.lines.get port).state = .down then s
  else if frameGood f = false then s.countLine port fun c => { c with rxError := c.rxError + 1 }
  else
    match recognise f.data with
    | .untagged => untagged port f.data s
    | .mismatch =>
      untagged port f.data (s.countLine port fun c => { c with trailerMismatch := c.trailerMismatch + 1 })
    | .tagged t => pairFilter port t s

/-! ## Bay egress (R139 to R141) -/

/-- The transmitted count of a queue (R140). -/
def BayCounts.transmitted (q : QueueKind) (c : BayCounts) : BayCounts :=
  match q with
  | .protection => { c with txProt := c.txProt + 1 }
  | .background => { c with txBack := c.txBack + 1 }

/-- The frame in transmission, if any, leaves the port counted as transmitted (R140). -/
def BayPort.endSending (p : BayPort) : BayPort :=
  match p.sending with
  | none => p
  | some f => { p with sending := none, cnt := p.cnt.transmitted f.queue }

/-- The frame a bay port takes next (R139), and the pacing timer that a background start with a gap of 1 or more
starts (R141). -/
def BayPort.takeNext (gap : Nat) (p : BayPort) : BayPort :=
  match p.prot, p.back with
  | f :: fs, _ => { p with prot := fs, sending := some ⟨.protection, wireOf f.data⟩ }
  | [], f :: fs =>
    if p.pacing.isSome then p
    else { p with back := fs, sending := some ⟨.background, wireOf f.data⟩,
                  pacing := if 1 ≤ gap then some gap else none }
  | [], [] => p

/-- BAY_TRANSMIT_START (R139): a Link-up port that is not transmitting takes its next frame. -/
def bayTransmitEffect (m : Master) (s : State) : State :=
  if (s.bays.get m).up = true ∧ (s.bays.get m).sending = none then s.onBay m (.takeNext (s.bayCfg.get m).gap) else s

/-- BAY_TRANSMIT_DONE (R140). -/
def bayDoneEffect (m : Master) (s : State) : State := s.onBay m .endSending

/-- PACING_TIMER_EXPIRY (R139, R141): the timer stops, and a background frame that waits in a free port with no
protection frame queued begins in the same event. A queued protection frame is left to its own BAY_TRANSMIT_START
(DEDUCED, log 29). -/
def pacingEffect (m : Master) (s : State) : State :=
  if (s.bays.get m).pacing = none then s
  else
    let s' := s.onBay m fun p => { p with pacing := none }
    if (s.bays.get m).prot = [] then bayTransmitEffect m s' else s'

/-- ALERT_HOLD_EXPIRY (R143). -/
def alertHoldEffect (s : State) : State :=
  if s.alertHold = none then s else raiseBoth .alert { s with alert := .calm, alertHold := none }

/-! ## The meanings of this family -/

/-- LINE_FRAME_RECEIVE (R1). -/
def execLineFrameReceive (l : Lane) (f : RxFrame) (s : State) : Host.Outcome State Fault Refusal :=
  .next (lineFrameEffect l f s)

/-- BAY_TRANSMIT_START (R139). -/
def execBayTransmitStart (m : Master) (s : State) : Host.Outcome State Fault Refusal := .next (bayTransmitEffect m s)

/-- BAY_TRANSMIT_DONE (R140). -/
def execBayTransmitDone (m : Master) (s : State) : Host.Outcome State Fault Refusal := .next (bayDoneEffect m s)

/-- PACING_TIMER_EXPIRY (R141). -/
def execPacingTimerExpiry (m : Master) (s : State) : Host.Outcome State Fault Refusal := .next (pacingEffect m s)

/-- ALERT_HOLD_EXPIRY (R143). -/
def execAlertHoldExpiry (s : State) : Host.Outcome State Fault Refusal := .next (alertHoldEffect s)

end Sys2Proof.Machine
end

