-- ==== Sys2Proof/Machine/TwinSender.lean ====
section
/-! DEFINITION. Sending on both lanes (chapter 2): bay port links and the path of one relay frame. -/

namespace Sys2Proof.Machine

/-! ## The bay port link (R16) -/

/-- A bay port that changes to Link-down (R16, R140, R141): address forgotten, queues flushed and counted, a frame on
the wire counted as transmitted, pacing stopped; the send sequence counter stays. -/
def BayPort.wentDown (p : BayPort) : BayPort :=
  let q := p.endSending
  { q with up := false, station := none, prot := [], back := [], pacing := none,
           cnt := { q.cnt with flush := q.cnt.flush + BitVec.ofNat 32 (p.prot.length + p.back.length) } }

/-- BAY_LINK_UP (R16). -/
def bayUpEffect (m : Master) (s : State) : State := s.onBay m fun p => { p with up := true }

/-- BAY_LINK_DOWN (R16): at the change from Link-up. -/
def bayDownEffect (m : Master) (s : State) : State :=
  if (s.bays.get m).up = true then s.onBay m .wentDown else s

/-! ## Steps 1 to 3 (R17 to R22) -/

/-- Step 2: the station address is learned, or a foreign source counted (R19, R20). -/
def BayPort.meet (source : Addr) (p : BayPort) : BayPort :=
  match p.station with
  | none =>
    if groupBit source then { p with cnt := { p.cnt with foreign := p.cnt.foreign + 1 } }
    else { p with station := some source }
  | some a => if a = source then p else { p with cnt := { p.cnt with foreign := p.cnt.foreign + 1 } }

/-- Whether the other bay port `y` receives a local copy (R21). -/
def localCopyTo (y : Master) (dest : Addr) (s : State) : Bool :=
  (s.bays.get y).up &&
    (if dest = Config.broadcast then true
     else if isGroup dest then
       match findGroup s.groups dest with
       | some (_, g) => g.members.get y
       | none => false
     else decide ((s.bays.get y).station = some dest))

/-! ## The lane checks, numbering and the offers (R23 to R30) -/

/-- What the three lane checks make of a frame (R23 to R25). -/
inductive LaneCheck where
  | oversize
  | quiet
  | shed
  | passed
deriving DecidableEq, Repr

/-- The lane checks in their order; the first that withholds decides (chapter 2, 2.6). -/
def laneCheck (x : Master) (cls : TrafficClass) (span : Nat) (s : State) : LaneCheck :=
  if Config.maxSpan < span then .oversize
  else if s.quiet.isSome then .quiet
  else if s.alert = .alert ∧ cls = .bulk ∧ (s.bayCfg.get x).shedding = true then .shed
  else .passed

/-- The sent count of a class (R30); the class given is never roll-call (R17). -/
def BayCounts.sent (cls : TrafficClass) (c : BayCounts) : BayCounts :=
  match cls with
  | .trip => { c with sentTrip := c.sentTrip + 1 }
  | .sample => { c with sentSample := c.sentSample + 1 }
  | .bulk => { c with sentBulk := c.sentBulk + 1 }
  | .rollCall => c

/-- A frame that passed the checks takes the next number (R26, R30), is offered to both line ports (R27), and counts
as lost when neither enqueues a copy (R29). -/
def sendNumbered (x : Master) (cls : TrafficClass) (body : List Byte) (s : State) : State :=
  let seq := (s.bays.get x).sendSeq
  let lost := !s.lines.a.accepts cls && !s.lines.b.accepts cls
  let s1 := s.onBay x fun p => { p with sendSeq := p.sendSeq + 1, cnt := p.cnt.sent cls }
  let s2 := offerLanes seq cls body s1
  if lost then s2.countBay x fun c => { c with lost := c.lost + 1 } else s2

/-- Step 4 and 5 of a frame's path. -/
def sendToLanes (x : Master) (cls : TrafficClass) (body : List Byte) (s : State) : State :=
  match laneCheck x cls body.length s with
  | .oversize => s.countBay x fun c => { c with oversize := c.oversize + 1 }
  | .quiet => s.countBay x fun c => { c with quiet := c.quiet + 1 }
  | .shed => s.countBay x fun c => { c with shedLanes := c.shedLanes + 1 }
  | .passed => sendNumbered x cls body s

/-- The five steps of a good relay frame on bay port `x`, in order (chapter 2, 2.2). -/
def relayFrame (x : Master) (data : List Byte) (s : State) : State :=
  let dest := destOf data
  let cls := classByTable s dest
  let s1 := if cls = .trip then tripReport s else s
  let s2 := s1.onBay x (.meet (sourceOf data))
  let y := otherMaster x
  let s3 := if localCopyTo y dest s2 then offerLocal y ⟨cls, data⟩ s2 else s2
  sendToLanes x cls data s3

/-- BAY_FRAME_RECEIVE (R2, R16). -/
def bayFrameEffect (x : Master) (f : RxFrame) (s : State) : State :=
  if (s.bays.get x).up = false then s
  else if frameGood f = false then s.countBay x fun c => { c with rxError := c.rxError + 1 }
  else relayFrame x f.data s

/-! ## The meanings of this family -/

/-- BAY_FRAME_RECEIVE (R2). -/
def execBayFrameReceive (m : Master) (f : RxFrame) (s : State) : Host.Outcome State Fault Refusal :=
  .next (bayFrameEffect m f s)

/-- BAY_LINK_UP (R16). -/
def execBayLinkUp (m : Master) (s : State) : Host.Outcome State Fault Refusal := .next (bayUpEffect m s)

/-- BAY_LINK_DOWN (R16). -/
def execBayLinkDown (m : Master) (s : State) : Host.Outcome State Fault Refusal := .next (bayDownEffect m s)

end Sys2Proof.Machine
end

