-- ==== Sys2Proof/Machine/Apply.lean ====
section
/-! DEFINITION. Staging, ownership and apply (chapter 9): STAGE, DISCARD STAGING, APPLY, the taking of an apply and
READ APPLY RESULT. -/

namespace Sys2Proof.Machine

/-! ## Clamping (R157) -/

/-- The nearer limit for a value outside a range. -/
def clampNat (lo hi v : Nat) : Nat := max lo (min hi v)

/-- An origin put's fields clamped to the ranges of chapter 3; a manual baseline staged with another mode than
Manual is left alone (R157). -/
def PutFields.clamped (f : PutFields) : PutFields :=
  { f with
    manual := if f.mode = .manual then clampMag Config.maxSkew f.manual else f.manual,
    k := clampNat 0 4 f.k, j := clampNat 4 11 f.j, m := clampNat 1 255 f.m,
    t1 := clampNat 1 32767 f.t1, t2 := clampNat 1 32767 f.t2, t3 := clampNat 1 32767 f.t3,
    c := clampNat 1 4 f.c, spike := clampNat 1 32767 f.spike, hold := clampNat 1 255 f.hold,
    weight := clampNat 0 128 f.weight, silence := clampNat 1 255 f.silence }

/-- The link-fail time: the nearest of 0, 5, 20 and 100 ms, the larger when two are equally near (R157). -/
def nearestLinkFail (v : Nat) : Nat := if v < 3 then 0 else if v < 13 then 5 else if v < 60 then 20 else 100

/-- The value a global setting takes of a number put to it (R157, R162); a code is taken as it is. -/
def globalClamp : GlobalSetting → Nat → Nat
  | .pairTimeout, v => clampNat 1 255 v
  | .lossLimit, v => clampNat 1 15 v
  | .learning, v => v
  | .profileMode, v => v
  | .profileK, v => clampNat 0 4 v
  | .profileJ, v => clampNat 4 11 v
  | .profileM, v => clampNat 1 255 v
  | .profileC, v => clampNat 1 4 v
  | .profileThresholds, v => clampNat 1 32767 v
  | .profileSpike, v => clampNat 1 32767 v
  | .profileHi, v => v
  | .profileLo, v => v
  | .profileHold, v => clampNat 1 255 v
  | .profileSilence, v => clampNat 1 255 v
  | .profileForget, v => clampNat 1 255 v
  | .band, v => v
  | .rollInterval, v => clampNat 1 80 v
  | .probeLimit, v => clampNat 1 30 v
  | .linkFailTime, v => nearestLinkFail v
  | .settleTime, v => clampNat 0 255 v
  | .startQuiet, v => clampNat 0 50 v
  | .alertHold, v => clampNat 1 255 v

/-- The learned profile with one field replaced. -/
def Globals.onProfile (f : Profile → Profile) (g : Globals) : Globals := { g with profile := f g.profile }

/-- A global setting replaced by values already clamped (R158). -/
def Globals.put (v1 v2 v3 : Nat) (g : Globals) : GlobalSetting → Globals
  | .pairTimeout => { g with pairTimeout := v3 }
  | .lossLimit => { g with lossLimit := v3 }
  | .learning => { g with learning := decide (v3 = 1) }
  | .profileMode => g.onProfile fun p => { p with mode := (modeOfCode v3).getD p.mode }
  | .profileK => g.onProfile fun p => { p with k := v3 }
  | .profileJ => g.onProfile fun p => { p with j := v3 }
  | .profileM => g.onProfile fun p => { p with m := v3 }
  | .profileC => g.onProfile fun p => { p with c := v3 }
  | .profileThresholds => g.onProfile fun p => { p with t1 := v1, t2 := v2, t3 := v3 }
  | .profileSpike => g.onProfile fun p => { p with spike := v3 }
  | .profileHi => g.onProfile fun p => { p with hi := decide (v3 = 1) }
  | .profileLo => g.onProfile fun p => { p with lo := decide (v3 = 1) }
  | .profileHold => g.onProfile fun p => { p with hold := v3 }
  | .profileSilence => g.onProfile fun p => { p with silence := v3 }
  | .profileForget => g.onProfile fun p => { p with forget := v3 }
  | .band => { g with band := if v3 = 0 then .eighth else .sixteenth }
  | .rollInterval => { g with rollInterval := v3 }
  | .probeLimit => { g with probeLimit := v3 }
  | .linkFailTime => { g with linkFailTime := v3 }
  | .settleTime => { g with settleTime := v3 }
  | .startQuiet => { g with startQuiet := v3 }
  | .alertHold => { g with alertHold := v3 }

/-- A bay-port setting replaced (R158, R133). -/
def BaySettings.put (v : Nat) (b : BaySettings) : BaySetting → BaySettings
  | .policy => { b with policy := if v = 0 then .deliver else .drop }
  | .shedding => { b with shedding := decide (v = 1) }
  | .gap => { b with gap := v }

/-! ## Origin items (R154, R155) -/

/-- Thresholds strictly increasing (R153). -/
def thresholdsRise (t1 t2 t3 : Nat) : Bool := decide (t1 < t2) && decide (t2 < t3)

/-- Whether any record names the record at an index as its lead (R155). -/
def isLead (origins : List (Nat × Origin)) (i : Nat) : Bool :=
  origins.any fun e => decide (e.2.cfg.ref = some i)

/-- A put's reference link resolved to an index: none where R155 refuses REFERENCE. `own` is the put's address. -/
def resolveRef (s : State) (own : Addr) : Option Addr → Option (Option Nat)
  | none => some none
  | some a =>
    if a = own then none
    else
      match findOrigin s a with
      | none => none
      | some (i, lead) =>
        if lead.learned = true ∨ lead.cfg.ref.isSome = true then none
        else
          match findOrigin s own with
          | none => some (some i)
          | some (me, _) => if isLead s.origins me then none else some (some i)

/-- The settings part of a clamped put; a manual baseline is taken in Manual mode only, else `kept` stays (R157). -/
def PutFields.settings (f : PutFields) (ref : Option Nat) (kept : Int) : OriginSettings where
  mode := f.mode
  manual := if f.mode = .manual then f.manual else kept
  k := f.k
  j := f.j
  m := f.m
  t1 := f.t1
  t2 := f.t2
  t3 := f.t3
  c := f.c
  spike := f.spike
  hi := f.hi
  lo := f.lo
  hold := f.hold
  ref := ref
  weight := f.weight
  suppress := f.suppress
  silence := f.silence

/-- An existing record under a put's new settings: the pipeline effects of R99 to R101, the rest kept (R78). -/
def Origin.reconfigure (new : OriginSettings) (reseed : Bool) (r : Origin) : Origin :=
  let p := commitPipeline r.cfg new r.pipe
  { r with cfg := new, pipe := if reseed then reseedPipeline new p else p }

/-- Owners of a record a master alone owns. -/
def soleOwner (m : Master) : PerMaster Bool := PerMaster.set ⟨false, false⟩ m true

/-- A promotion in place (R45). -/
def Origin.promote (m : Master) (new : OriginSettings) (reseed : Bool) (r : Origin) : Origin :=
  { r.reconfigure new reseed with owners := soleOwner m, forgetTime := none, note := none, forget := none }

/-- The outcome of one item: the state after it and whether a value was clamped, or the reason it is refused. -/
abbrev ItemOutcome := Except RefusalReason (State × Bool)

/-- An origin put on clamped fields (R154, R155, R158). The reasons are tried in the order of R153's table (log 10). -/
def putOrigin (m : Master) (a : Addr) (f : PutFields) (s : State) : Except RefusalReason State :=
  match findOrigin s a with
  | some (i, r) =>
    if r.learned = false ∧ r.owners.get m = false then .error .notOwner
    else if thresholdsRise f.t1 f.t2 f.t3 = false then .error .order
    else
      match resolveRef s a f.ref with
      | none => .error .reference
      | some ref =>
        if r.learned then
          let s' := markChange i (s.setOrigin i (r.promote m (f.settings ref 0) f.reseed))
          .ok { s' with silentOrder := s'.silentOrder.erase i }
        else .ok (s.setOrigin i (r.reconfigure (f.settings ref r.cfg.manual) f.reseed))
  | none =>
    if thresholdsRise f.t1 f.t2 f.t3 = false then .error .order
    else
      match resolveRef s a f.ref with
      | none => .error .reference
      | some ref =>
        if tableFull s then .error .noRoom
        else .ok (createSilent (Origin.fresh a (soleOwner m) (f.settings ref 0)) s)

/-- An origin delete (R154, R155). -/
def deleteOrigin (m : Master) (a : Addr) (s : State) : Except RefusalReason State :=
  match findOrigin s a with
  | none => .error .unknown
  | some (i, r) =>
    if r.learned then .error .unknown
    else if r.owners.get m = false then .error .notOwner
    else
      let left := r.owners.set m false
      if left.one = true ∨ left.two = true then .ok (s.setOrigin i { r with owners := left })
      else if isLead s.origins i then .error .referenced
      else .ok (removeOrigin i s)

/-- An origin share (R154). -/
def shareOrigin (m : Master) (a : Addr) (s : State) : Except RefusalReason State :=
  match findOrigin s a with
  | none => .error .unknown
  | some (i, r) =>
    if r.learned then .error .unknown
    else if r.owners.get m = false then .error .notOwner
    else .ok (s.setOrigin i { r with owners := ⟨true, true⟩ })

/-! ## Group items (R132, R156) -/

/-- A group join of this master's bay port (R156). -/
def joinGroup (m : Master) (a : Addr) (cls : GroupClass) (s : State) : Except RefusalReason State :=
  match findGroup s.groups a with
  | some (i, g) =>
    if g.cls ≠ cls then .error .classConflict
    else .ok { s with groups := tabPut s.groups i { g with members := g.members.set m true } }
  | none =>
    if Config.maxGroups ≤ s.groups.length then .error .groupFull
    else .ok { s with groups := tabPut s.groups (tabFree s.groups) ⟨a, cls, soleOwner m⟩ }

/-- A group leave of this master's bay port (R156). -/
def leaveGroup (m : Master) (a : Addr) (s : State) : State :=
  match findGroup s.groups a with
  | none => s
  | some (i, g) =>
    let left := g.members.set m false
    if left.one = true ∨ left.two = true then { s with groups := tabPut s.groups i { g with members := left } }
    else { s with groups := tabErase s.groups i }

/-! ## Settings items -/

/-- Every record's lane state recomputed under the loss limit (R75). -/
def relaneAll (s : State) : State := { s with origins := tabMap (Origin.relane s.globals.lossLimit) s.origins }

/-- A global setting put, its values clamped: ORDER for thresholds that do not rise (R153), and a change of the loss
limit recomputes lane states (R75). -/
def putGlobal (g : GlobalSetting) (v1 v2 v3 : Nat) (s : State) : Except RefusalReason State :=
  if g = .profileThresholds ∧ thresholdsRise v1 v2 v3 = false then .error .order
  else
    let s' := { s with globals := s.globals.put v1 v2 v3 g }
    .ok (if g = .lossLimit then relaneAll s' else s')

/-- A bay-port setting put of this master's port (R156). -/
def putBay (m : Master) (b : BaySetting) (v : Nat) (s : State) : State :=
  { s with bayCfg := s.bayCfg.set m ((s.bayCfg.get m).put v b) }

/-- Whether a global setting put clamps a value; only the thresholds use the first two (R157). -/
def globalClamps (g : GlobalSetting) (v1 v2 v3 : Nat) : Bool :=
  decide (globalClamp g v3 ≠ v3) ||
    (decide (g = .profileThresholds) && (decide (globalClamp g v1 ≠ v1) || decide (globalClamp g v2 ≠ v2)))

/-! ## Validation and commit in one pass (R153, R158) -/

/-- One item against the state the earlier items left: refused, or committed with whether a value was clamped. -/
def commitItem (m : Master) (it : Item) (s : State) : ItemOutcome :=
  match it with
  | .originPut a f => (putOrigin m a f.clamped s).map fun s' => (s', decide (f.clamped ≠ f))
  | .originDelete a => (deleteOrigin m a s).map fun s' => (s', false)
  | .originShare a => (shareOrigin m a s).map fun s' => (s', false)
  | .groupJoin a cls => (joinGroup m a cls s).map fun s' => (s', false)
  | .groupLeave a => .ok (leaveGroup m a s, false)
  | .globalPut g v1 v2 v3 =>
    (putGlobal g (globalClamp g v1) (globalClamp g v2) (globalClamp g v3) s).map fun s' => (s', globalClamps g v1 v2 v3)
  | .bayPut b v => .ok (putBay m b v s, false)

/-- What becomes of the items from number `n` on: the state after all of them and the first clamped item (0 when
none, carried in `first`), or the reason and number of the first that fails. -/
def commitItems (m : Master) : List Item → Nat → Nat → State → Except (RefusalReason × Nat) (State × Nat)
  | [], _, first, s => .ok (s, first)
  | it :: its, n, first, s =>
    match commitItem m it s with
    | .error reason => .error (reason, n)
    | .ok (s', clamped) => commitItems m its (n + 1) (if clamped = true ∧ first = 0 then n else first) s'

/-- The result of an apply and APPLY DONE for its master alone (R159); the apply is no longer pending. -/
def finishApply (m : Master) (r : ApplyResult) (s : State) : State :=
  raiseFor m .applyDone
    { s with applyPending := s.applyPending.set m false, applyResult := s.applyResult.set m r }

/-- One taking (R152, R158): all items committed, every record compared (R112) and the staging area emptied, or
nothing changed and the area kept (R153). -/
def takeApply (m : Master) (s : State) : State :=
  let items := s.staging.get m
  match commitItems m items 1 0 s with
  | .error (reason, n) => finishApply m (.refused reason n) s
  | .ok (s', first) =>
    let s'' := compareAll s'
    finishApply m (if first = 0 then .accepted items.length else .clamped items.length first)
      { s'' with staging := s''.staging.set m [] }

/-- APPLY_TAKEN: link 1's pending apply first, link 2's next (R152). -/
def applyTakenEffect (s : State) : State :=
  if s.applyPending.one then takeApply .m1 s
  else if s.applyPending.two then takeApply .m2 s
  else s

/-! ## The commands -/

/-- STAGE (R148, R149, R161). -/
def stageEffect (m : Master) (x : Args) (s : State) : State :=
  takeCommand m x s fun bytes =>
    if s.applyPending.get m then reply m .busy [] s
    else if Config.maxStaged ≤ (s.staging.get m).length then reply m .full [] s
    else
      match formCheck bytes with
      | .error st => reply m st [] s
      | .ok it => reply m .ok [] { s with staging := s.staging.set m (s.staging.get m ++ [it]) }

/-- DISCARD STAGING (R150). -/
def discardEffect (m : Master) (x : Args) (s : State) : State :=
  takeFixed m 0 x s fun _ =>
    if s.applyPending.get m then reply m .busy [] s
    else reply m .ok [] { s with staging := s.staging.set m [] }

/-- APPLY (R151). -/
def applyEffect (m : Master) (x : Args) (s : State) : State :=
  takeFixed m 0 x s fun _ =>
    if s.applyPending.get m then reply m .busy [] s
    else reply m .ok [] { s with applyPending := s.applyPending.set m true }

/-- The last four fields of READ APPLY RESULT: outcome, number of items or of the failing item, first clamped item
or 0, reason or 0 (R162; log 14). -/
def ApplyResult.fields : ApplyResult → List Byte
  | .none => [0, 0, 0, 0].flatMap byteField
  | .accepted n => [1, n, 0, 0].flatMap byteField
  | .clamped n first => [2, n, first, 0].flatMap byteField
  | .refused reason n => [3, n, 0, reason.position].flatMap byteField

/-- READ APPLY RESULT (R159, R162). -/
def readApplyEffect (m : Master) (x : Args) (s : State) : State :=
  takeFixed m 0 x s fun _ =>
    reply m .ok (flagField (s.applyPending.get m) ++ (s.applyResult.get m).fields) s

/-! ## The meanings of this family -/

/-- STAGE (R148). -/
def execStage (m : Master) (x : Args) (s : State) : Host.Outcome State Fault Refusal := .next (stageEffect m x s)

/-- DISCARD_STAGING (R150). -/
def execDiscardStaging (m : Master) (x : Args) (s : State) : Host.Outcome State Fault Refusal :=
  .next (discardEffect m x s)

/-- APPLY (R151). -/
def execApply (m : Master) (x : Args) (s : State) : Host.Outcome State Fault Refusal := .next (applyEffect m x s)

/-- APPLY_TAKEN (R152). -/
def execApplyTaken (s : State) : Host.Outcome State Fault Refusal := .next (applyTakenEffect s)

/-- READ_APPLY_RESULT (R159). -/
def execReadApplyResult (m : Master) (x : Args) (s : State) : Host.Outcome State Fault Refusal :=
  .next (readApplyEffect m x s)

end Sys2Proof.Machine
end

