-- ==== Sys2Proof/Machine/Control.lean ====
section
/-! DEFINITION. The reading and reporting commands of the control links (chapter 10). -/

namespace Sys2Proof.Machine

/-! ## Framing (R14, R160) -/

/-- The row of a command byte taken on a link, with its arguments (R15). -/
def commandRow (m : Master) (code : Byte) (x : Args) : Instr :=
  match code.toNat with
  | 0x01 => .identify m x
  | 0x02 => .readOrigin m x
  | 0x03 => .findOrigin m x
  | 0x04 => .readGroup m x
  | 0x05 => .readPort m x
  | 0x06 => .readTime m x
  | 0x07 => .stage m x
  | 0x08 => .discardStaging m x
  | 0x09 => .apply m x
  | 0x0A => .readApplyResult m x
  | 0x0B => .readEvents m x
  | 0x0C => .ackEvents m x
  | 0x0D => .setEventMask m x
  | 0x0E => .readChanges m x
  | 0x0F => .ackRestart m x
  | 0x10 => .saveSet m x
  | 0x11 => .selectStartSet m x
  | 0x12 => .restart m x
  | _ => .unknownCommand m code x

/-- What the bytes received in one select period of a link come to, the framing idle at its start: the row of the
command they take, a cut when they take none, and nothing when there are none (R14, R160). -/
def periodRow (m : Master) (received : List Byte) : Option Instr :=
  match Framing.idle.run received with
  | (_, some (code, x)) => some (commandRow m code x)
  | (.idle, none) => none
  | (_, none) => some (.cutTransaction m received)

/-- CUT_TRANSACTION: a select period that ended, after at least one byte, before its command was taken; the next one
starts with the framing idle (R160). -/
def cutEffect (m : Master) (received : List Byte) (s : State) : State :=
  if isCut received then s.onLink m fun c => { c with framing := .idle, cut := c.cut + 1 } else s

/-- UNKNOWN_COMMAND: BAD-COMMAND comes before every other status, whatever the byte and the arguments (R14,
R161). -/
def unknownEffect (m : Master) (_code : Byte) (_args : Args) (s : State) : State := reply m .badCommand [] s

/-! ## Identity, time and look-ups (R163, R165) -/

/-- IDENTIFY's results (R162). -/
def identifyResults (m : Master) (s : State) : List Byte :=
  wordField Config.deviceCode ++ byteField s.revision.toNat ++ byteField (linkNumber m) ++ addrBytes s.station ++
    countField (s.links.get m).cut

/-- IDENTIFY (R163). -/
def identifyEffect (m : Master) (x : Args) (s : State) : State :=
  takeFixed m 0 x s fun _ => reply m .ok (identifyResults m s) s

/-- READ TIME's results (R162, R163). -/
def timeResults (s : State) : List Byte :=
  countField s.seconds ++ countField s.restarts ++ countField s.lines.a.laneUp ++ countField s.lines.b.laneUp ++
    countField s.tick

/-- READ TIME (R163). -/
def readTimeEffect (m : Master) (x : Args) (s : State) : State :=
  takeFixed m 0 x s fun _ => reply m .ok (timeResults s) s

/-- FIND ORIGIN's results (R165). -/
def findResults (a : Addr) (s : State) : List Byte :=
  match findOrigin s a with
  | some (i, _) => flagField true ++ byteField i
  | none => flagField false ++ byteField 0

/-- FIND ORIGIN (R165). -/
def findOriginEffect (m : Master) (x : Args) (s : State) : State :=
  takeFixed m 6 x s fun bytes => reply m .ok (findResults (addrAt bytes 0) s) s

/-- READ GROUP's results (R165). -/
def groupResults (slot : Nat) (s : State) : List Byte :=
  match tabGet s.groups slot with
  | some g =>
    flagField true ++ addrBytes g.addr ++ byteField g.cls.position ++ flagField g.members.one ++
      flagField g.members.two
  | none => flagField false ++ List.replicate 9 0#8

/-- READ GROUP (R165). -/
def readGroupEffect (m : Master) (x : Args) (s : State) : State :=
  takeFixed m 1 x s fun bytes =>
    if Config.maxGroups ≤ numAt bytes 0 1 then reply m .badIndex [] s
    else reply m .ok (groupResults (numAt bytes 0 1) s) s

/-! ## READ ORIGIN (R164) -/

/-- A learning note: its cause, and the announcer's index where the cause is a roll-call. That the index byte is 0
where the cause is a frame is the model's choice (DESIGN CHOICE, log 14): R164 gives it no value there. -/
def noteFields : LearningNote → List Byte
  | .frameOn port => byteField (lanePosition port) ++ byteField 0
  | .rollCallOf announcer => byteField 2 ++ byteField announcer

/-- Part 0, the settings part. -/
def settingsPart (r : Origin) : List Byte :=
  addrBytes r.addr ++ byteField (if r.learned then 1 else 0) ++ byteField (ownersCode r.owners) ++
    byteField r.cfg.mode.position ++ skewField r.cfg.manual ++ byteField r.cfg.k ++ byteField r.cfg.j ++
    byteField r.cfg.m ++ wordField r.cfg.t1 ++ wordField r.cfg.t2 ++ wordField r.cfg.t3 ++ byteField r.cfg.c ++
    wordField r.cfg.spike ++ flagField r.cfg.hi ++ flagField r.cfg.lo ++ byteField r.cfg.hold ++
    optField 1 byteField r.cfg.ref ++ byteField r.cfg.weight ++ flagField r.cfg.suppress ++
    byteField r.cfg.silence ++ optField 1 byteField r.forgetTime ++ optField 2 noteFields r.note

/-- Part 1, the window part. -/
def windowPart (r : Origin) : List Byte :=
  flagField r.win.seeded ++ wordField r.win.highest.toNat ++ beBytes 8 r.win.delivered.toNat ++
    byteField r.win.staleRun ++ byteField r.win.pairs.length

/-- One open pair of part 2. -/
def pairFields (p : OpenPair) : List Byte :=
  wordField p.seq.toNat ++ byteField (lanePosition p.first) ++ countField p.tick

/-- Part 2, the open pairs. -/
def pairsPart (r : Origin) : List Byte :=
  flagField r.win.seeded ++ wordField r.win.highest.toNat ++ byteField r.win.pairs.length ++
    r.win.pairs.flatMap pairFields

/-- Part 3, the lane part. -/
def lanePart (r : Origin) : List Byte :=
  byteField r.lane.miss.a ++ byteField r.lane.miss.b ++ byteField r.lane.state.position ++
    optField 4 countField r.lane.last.a ++ optField 4 countField r.lane.last.b ++
    optField 4 countField r.lane.lastFrame

/-- Part 4, the pipeline part. -/
def pipelinePart (r : Origin) : List Byte :=
  flagField r.pipe.seeded ++ skewField r.pipe.filtered ++ skewField r.pipe.baseline ++ skewField r.pipe.raw ++
    skewField r.pipe.dev ++ byteField r.pipe.dir.position ++ byteField r.pipe.level.position ++
    byteField r.pipe.cand.position ++ byteField r.pipe.candCount ++ byteField r.pipe.decim ++
    flagField r.pipe.hold.isSome

/-- Part 5, the twelve counters in the order of R53. -/
def countersPart (r : Origin) : List Byte :=
  [r.cnt.accepted, r.cnt.twins, r.cnt.repeats, r.cnt.lateA, r.cnt.lateB, r.cnt.missA, r.cnt.missB, r.cnt.stale,
    r.cnt.resyncs, r.cnt.spikes, r.cnt.saturated, r.cnt.abandoned].flatMap countField

/-- Part 6, the notification part. -/
def notificationPart (r : Origin) : List Byte :=
  byteField r.notif.level.position ++ byteField r.notif.dir.position ++ byteField r.notif.lane.position

/-- The part a number names; none above 6. -/
def originPart (r : Origin) : Nat → Option (List Byte)
  | 0 => some (settingsPart r)
  | 1 => some (windowPart r)
  | 2 => some (pairsPart r)
  | 3 => some (lanePart r)
  | 4 => some (pipelinePart r)
  | 5 => some (countersPart r)
  | 6 => some (notificationPart r)
  | _ => none

/-- READ ORIGIN (R164): present flag 0 alone for a free index. -/
def readOriginEffect (m : Master) (x : Args) (s : State) : State :=
  takeFixed m 2 x s fun bytes =>
    if 6 < numAt bytes 1 1 then reply m .badIndex [] s
    else
      match originAt s (numAt bytes 0 1) with
      | none => reply m .ok (flagField false) s
      | some r => reply m .ok (flagField true ++ (originPart r (numAt bytes 1 1)).getD []) s

/-! ## READ PORT (R166) -/

/-- A line port's part 0. -/
def lineStatePart (s : State) (p : LinePort) : List Byte :=
  byteField p.state.position ++ flagField p.unconfirmed ++
    optField 1 (fun l : Lane => byteField (lanePosition l)) p.run.code ++ byteField p.run.len ++
    flagField p.linkPresent ++ flagField p.linkFail.isSome ++ byteField p.prot.length ++ byteField p.back.length ++
    flagField s.quiet.isSome

/-- A line port's part 1. -/
def lineCounts1 (c : LineCounts) : List Byte :=
  [c.rxError, c.trailerMismatch, c.rollMalformed, c.echo, c.overflow, c.proxySkipped, c.notForBay, c.assurance,
    c.missUnavail].flatMap countField

/-- A line port's part 2. -/
def lineCounts2 (c : LineCounts) : List Byte :=
  [c.shedTrip, c.shedSample, c.shedBulk, c.shedRoll, c.glitch, c.flush, c.txProt, c.txBack].flatMap countField

/-- A bay port's part 0. -/
def bayStatePart (s : State) (p : BayPort) (b : BaySettings) : List Byte :=
  flagField p.up ++ optField 6 addrBytes p.station ++ wordField p.sendSeq.toNat ++ byteField b.policy.position ++
    flagField b.shedding ++ wordField b.gap ++ byteField p.prot.length ++ byteField p.back.length ++
    flagField p.pacing.isSome ++ byteField s.alert.position ++ flagField s.alertHold.isSome

/-- A bay port's part 1. -/
def bayCounts1 (c : BayCounts) : List Byte :=
  [c.rxError, c.foreign, c.oversize, c.quiet, c.shedLanes, c.lost, c.sentTrip, c.sentSample,
    c.sentBulk].flatMap countField

/-- A bay port's part 2. -/
def bayCounts2 (c : BayCounts) : List Byte :=
  [c.localRx, c.flush, c.unknownDropped, c.shedBay, c.dropProt, c.dropBack, c.txProt, c.txBack].flatMap countField

/-- A part of a line port's readout; none above 2. -/
def linePart (s : State) (l : Lane) : Nat → Option (List Byte)
  | 0 => some (lineStatePart s (s.lines.get l))
  | 1 => some (lineCounts1 (s.lines.get l).cnt)
  | 2 => some (lineCounts2 (s.lines.get l).cnt)
  | _ => none

/-- A part of a bay port's readout; none above 2. -/
def bayPart (s : State) (m : Master) : Nat → Option (List Byte)
  | 0 => some (bayStatePart s (s.bays.get m) (s.bayCfg.get m))
  | 1 => some (bayCounts1 (s.bays.get m).cnt)
  | 2 => some (bayCounts2 (s.bays.get m).cnt)
  | _ => none

/-- The part of the port a pair of numbers names: ports 0 to 3 are line A, line B, bay 1 and bay 2 (R166). -/
def portPart (s : State) (port part : Nat) : Option (List Byte) :=
  match port with
  | 0 => linePart s .a part
  | 1 => linePart s .b part
  | 2 => bayPart s .m1 part
  | 3 => bayPart s .m2 part
  | _ => none

/-- READ PORT (R166). -/
def readPortEffect (m : Master) (x : Args) (s : State) : State :=
  takeFixed m 2 x s fun bytes =>
    match portPart s (numAt bytes 0 1) (numAt bytes 1 1) with
    | none => reply m .badIndex [] s
    | some results => reply m .ok results s

/-! ## Events and change sets (R168 to R170) -/

/-- READ EVENTS' results (R162). -/
def eventResults (c : ControlLink) : List Byte :=
  wordField c.flags.toNat ++ wordField c.mask.toNat ++ flagField c.attention ++ wordField c.changes.length

/-- READ EVENTS (R168). -/
def readEventsEffect (m : Master) (x : Args) (s : State) : State :=
  takeFixed m 0 x s fun _ => reply m .ok (eventResults (s.links.get m)) s

/-- An event set argument (R162). -/
def eventSetOf (bytes : List Byte) : EventSet := BitVec.ofNat 16 (numAt bytes 0 2)

/-- ACK EVENTS (R168). -/
def ackEventsEffect (m : Master) (x : Args) (s : State) : State :=
  takeFixed m 2 x s fun bytes =>
    let s' := s.onLink m (.ack (eventSetOf bytes))
    reply m .ok (wordField (s'.links.get m).flags.toNat) s'

/-- SET EVENT MASK (R169); bits that name no kind are ignored (R167). -/
def setMaskEffect (m : Master) (x : Args) (s : State) : State :=
  takeFixed m 2 x s fun bytes =>
    reply m .ok [] (s.onLink m fun c => { c with mask := eventSetOf bytes &&& allKinds })

/-- READ CHANGES' results: how many indices, how many remain, the indices (R162, R170). -/
def changeResults (changes : List Nat) : List Byte :=
  let out := changes.take Config.maxChangesRead
  byteField out.length ++ wordField (changes.length - out.length) ++ out.flatMap byteField

/-- READ CHANGES (R170). -/
def readChangesEffect (m : Master) (x : Args) (s : State) : State :=
  takeFixed m 0 x s fun _ =>
    reply m .ok (changeResults (s.links.get m).changes)
      (s.onLink m fun c => { c with changes := c.changes.drop Config.maxChangesRead })

/-- ACK RESTART (R168). -/
def ackRestartEffect (m : Master) (x : Args) (s : State) : State :=
  takeFixed m 0 x s fun _ => reply m .ok [] (s.onLink m .ackRestartSeen)

/-! ## The meanings of this family -/

/-- CUT_TRANSACTION (R160). -/
def execCutTransaction (m : Master) (received : List Byte) (s : State) : Host.Outcome State Fault Refusal :=
  .next (cutEffect m received s)

/-- UNKNOWN_COMMAND (R14). -/
def execUnknownCommand (m : Master) (code : Byte) (x : Args) (s : State) : Host.Outcome State Fault Refusal :=
  .next (unknownEffect m code x s)

/-- IDENTIFY (R163). -/
def execIdentify (m : Master) (x : Args) (s : State) : Host.Outcome State Fault Refusal := .next (identifyEffect m x s)

/-- READ_ORIGIN (R164). -/
def execReadOrigin (m : Master) (x : Args) (s : State) : Host.Outcome State Fault Refusal :=
  .next (readOriginEffect m x s)

/-- FIND_ORIGIN (R165). -/
def execFindOrigin (m : Master) (x : Args) (s : State) : Host.Outcome State Fault Refusal :=
  .next (findOriginEffect m x s)

/-- READ_GROUP (R165). -/
def execReadGroup (m : Master) (x : Args) (s : State) : Host.Outcome State Fault Refusal :=
  .next (readGroupEffect m x s)

/-- READ_PORT (R166). -/
def execReadPort (m : Master) (x : Args) (s : State) : Host.Outcome State Fault Refusal := .next (readPortEffect m x s)

/-- READ_TIME (R163). -/
def execReadTime (m : Master) (x : Args) (s : State) : Host.Outcome State Fault Refusal := .next (readTimeEffect m x s)

/-- READ_EVENTS (R168). -/
def execReadEvents (m : Master) (x : Args) (s : State) : Host.Outcome State Fault Refusal :=
  .next (readEventsEffect m x s)

/-- ACK_EVENTS (R168). -/
def execAckEvents (m : Master) (x : Args) (s : State) : Host.Outcome State Fault Refusal :=
  .next (ackEventsEffect m x s)

/-- SET_EVENT_MASK (R169). -/
def execSetEventMask (m : Master) (x : Args) (s : State) : Host.Outcome State Fault Refusal :=
  .next (setMaskEffect m x s)

/-- READ_CHANGES (R170). -/
def execReadChanges (m : Master) (x : Args) (s : State) : Host.Outcome State Fault Refusal :=
  .next (readChangesEffect m x s)

/-- ACK_RESTART (R168). -/
def execAckRestart (m : Master) (x : Args) (s : State) : Host.Outcome State Fault Refusal :=
  .next (ackRestartEffect m x s)

end Sys2Proof.Machine
end

