-- ==== Sys2Proof/Machine/Store.lean ====
section
/-! DEFINITION. Stored settings, start-up and the kinds of reset (chapter 11), with the start quiet's end and the
seconds counter. -/

namespace Sys2Proof.Machine

/-! ## The store (R171 to R173) -/

/-- The set a slot is. -/
def UserSlot.number : UserSlot → SetNo
  | .u1 => .s1
  | .u2 => .s2

/-- A user set. -/
def State.userSet (s : State) : UserSlot → UserSet
  | .u1 => s.set1
  | .u2 => s.set2

/-- Replace a user set. -/
def State.setUserSet (u : UserSlot) (x : UserSet) (s : State) : State :=
  match u with
  | .u1 => { s with set1 := x }
  | .u2 => { s with set2 := x }

/-- What a set stores of a record: nothing of a learned one (R171). -/
def Origin.stored (r : Origin) : Option StoredOrigin := if r.learned then none else some ⟨r.addr, r.owners, r.cfg⟩

/-- The configured state as it stands (R171, R172). -/
def snapshotOf (s : State) : SetContent := ⟨tabFilterMap Origin.stored s.origins, s.groups, s.globals, s.bayCfg⟩

/-- The user slot a set number names. -/
def slotOfNumber : Nat → Option UserSlot
  | 1 => some .u1
  | 2 => some .u2
  | _ => none

/-- Record a save's outcome for its requester, and raise SAVE DONE for it alone (R172). -/
def reportSave (m : Master) (r : SaveResult) (s : State) : State :=
  raiseFor m .saveDone { s with saveResult := s.saveResult.set m r }

/-- A save begun: the snapshot, the save record, and the set invalid from now on (R171, R172). -/
def beginSave (m : Master) (u : UserSlot) (s : State) : State :=
  { s.setUserSet u { s.userSet u with checkHolds := false, valid := false } with save := some ⟨u, m, snapshotOf s⟩ }

/-- SAVE SET (R172). -/
def saveSetEffect (m : Master) (x : Args) (s : State) : State :=
  takeFixed m 1 x s fun bytes =>
    let n := numAt bytes 0 1
    if 2 < n then reply m .badIndex [] s
    else if s.save.isSome then reply m .busy [] s
    else
      match slotOfNumber n with
      | none => reply m .ok [] (reportSave m (.ok .s0) { s with startSet := .s0 })
      | some u => reply m .ok [] (beginSave m u s)

/-- SAVE_COMPLETION: the verify matches or not (R172). -/
def saveCompletionEffect (verified : Bool) (s : State) : State :=
  match s.save with
  | none => s
  | some r =>
    let s' := { s with save := none }
    if verified then
      reportSave r.requester (.ok r.slot.number)
        { s'.setUserSet r.slot ⟨r.snapshot, true, true⟩ with startSet := r.slot.number }
    else reportSave r.requester (.failed r.slot.number) s'

/-- The last save result as outcome and set number (R162, log 14). -/
def SaveResult.fields : SaveResult → List Byte
  | .none => byteField 0 ++ byteField 0
  | .ok n => byteField 1 ++ byteField n.position
  | .failed n => byteField 2 ++ byteField n.position

/-- SELECT START SET's results (R162, R173). -/
def storeResults (m : Master) (s : State) : List Byte :=
  byteField s.startSet.position ++ flagField s.set1.valid ++ flagField s.set2.valid ++ flagField s.save.isSome ++
    byteField (match s.save with
      | some r => r.slot.number.position
      | none => 0) ++
    (s.saveResult.get m).fields

/-- The start-set choice after SELECT START SET with an argument, none where R173 answers BAD-INDEX. -/
def selectedSet (s : State) : Nat → Option SetNo
  | 0 => some .s0
  | 1 => if s.set1.valid then some .s1 else none
  | 2 => if s.set2.valid then some .s2 else none
  | 255 => some s.startSet
  | _ => none

/-- SELECT START SET (R173). -/
def selectEffect (m : Master) (x : Args) (s : State) : State :=
  takeFixed m 1 x s fun bytes =>
    match selectedSet s (numAt bytes 0 1) with
    | none => reply m .badIndex [] s
    | some n =>
      let s' := { s with startSet := n }
      reply m .ok (storeResults m s') s'

/-- RESTART (R175): OK arms the restart, which follows the end of the select period (R15). That a RESTART answered
OK on each link before either takes effect is one restart is the model's choice (DESIGN CHOICE, log 19). -/
def restartEffect (m : Master) (x : Args) (s : State) : State :=
  takeFixed m 0 x s fun _ =>
    if s.save.isSome then reply m .busy [] s else reply m .ok [] { s with restartArmed := true }

/-! ## Start-up (R174) -/

/-- Step 1: all runtime state cleared; the identity, the stored sets, the start-set choice and the clock stay. -/
def clearRuntime (s : State) : State :=
  { State.reset with
    station := s.station, revision := s.revision, tick := s.tick, seconds := s.seconds, restarts := s.restarts,
    ready := false, quiet := none, links := ⟨.reset, .reset⟩, set1 := s.set1, set2 := s.set2,
    startSet := s.startSet, pending := s.pending }

/-- A set's mark after the start-up check (R171). -/
def UserSet.check (x : UserSet) : UserSet := { x with valid := x.checkHolds }

/-- A stored record as start-up loads it: as created by an apply, without notification (R54, R103). -/
def StoredOrigin.load (x : StoredOrigin) : Origin := Origin.fresh x.addr x.owners x.cfg

/-- A set's content loaded (R54, R174). -/
def loadSet (c : SetContent) (s : State) : State :=
  { s with origins := tabMap StoredOrigin.load c.origins, groups := c.groups, globals := c.globals, bayCfg := c.bayCfg }

/-- The user set the start-set choice names, if it names one. -/
def SetNo.slot : SetNo → Option UserSlot
  | .s0 => none
  | .s1 => some .u1
  | .s2 => some .u2

/-- Step 2: the sets checked and the start set loaded, or set 0 with STORE REJECTED for both masters; the choice
stays (R174). -/
def loadStart (s : State) : State :=
  let s := { s with set1 := s.set1.check, set2 := s.set2.check }
  match s.startSet.slot with
  | none => loadSet factorySet s
  | some u =>
    if (s.userSet u).valid then loadSet (s.userSet u).content s
    else raiseBoth .storeRejected (loadSet factorySet s)

/-- Step 4: a PHY that reports link is a link-up event of its port (R16, R115). -/
def readPhys (phys : Phys) (s : State) : State :=
  let s := if phys.lineA then lineUp .a s else s
  let s := if phys.lineB then lineUp .b s else s
  let s := if phys.bay1 then bayUpEffect .m1 s else s
  if phys.bay2 then bayUpEffect .m2 s else s

/-- Step 5: the start quiet starts; a quiet of 0 ends at once with the first announcement (R126). -/
def startQuiet (s : State) : State :=
  if s.globals.startQuiet = 0 then announce s else { s with quiet := some s.globals.startQuiet }

/-- Start-up, the five steps in order (R174). -/
def startUp (phys : Phys) (s : State) : State :=
  let s := raiseBoth .restartSeen (loadStart (clearRuntime s))
  startQuiet (readPhys phys { s with ready := true })

/-- Power-on and reset pin, identical in every respect: the clock counts 0, then start-up (R175). -/
def powerReset (phys : Phys) (s : State) : State := startUp phys { s with tick := 0, seconds := 0, restarts := 0 }

/-- RESTART_TAKES_EFFECT (R175): the armed restart, once no save is in flight; the tick counter and the seconds are
kept and the restart count rises. -/
def restartTakesEffect (phys : Phys) (s : State) : State :=
  if s.restartArmed = true ∧ s.save = none then startUp phys { s with restarts := s.restarts + 1 } else s

/-! ## The start quiet's end and the seconds (R126, R129) -/

/-- START_QUIET_END (R126). -/
def quietEndEffect (s : State) : State := if s.quiet = none then s else announce { s with quiet := none }

/-- The lane-up seconds of a port that is not Down rise by 1 (R129). -/
def LinePort.second (p : LinePort) : LinePort := if p.state = .down then p else { p with laneUp := p.laneUp + 1 }

/-- SECONDS_TICK (R129). -/
def secondsEffect (s : State) : State :=
  { s with seconds := s.seconds + 1, lines := ⟨s.lines.a.second, s.lines.b.second⟩ }

/-! ## The meanings of this family -/

/-- POWER_ON (R175). -/
def execPowerOn (phys : Phys) (s : State) : Host.Outcome State Fault Refusal := .next (powerReset phys s)

/-- RESET_PIN (R175). -/
def execResetPin (phys : Phys) (s : State) : Host.Outcome State Fault Refusal := .next (powerReset phys s)

/-- START_QUIET_END (R126). -/
def execStartQuietEnd (s : State) : Host.Outcome State Fault Refusal := .next (quietEndEffect s)

/-- SECONDS_TICK (R129). -/
def execSecondsTick (s : State) : Host.Outcome State Fault Refusal := .next (secondsEffect s)

/-- SAVE_SET (R172). -/
def execSaveSet (m : Master) (x : Args) (s : State) : Host.Outcome State Fault Refusal := .next (saveSetEffect m x s)

/-- SAVE_COMPLETION (R172). -/
def execSaveCompletion (verified : Bool) (s : State) : Host.Outcome State Fault Refusal :=
  .next (saveCompletionEffect verified s)

/-- SELECT_START_SET (R173). -/
def execSelectStartSet (m : Master) (x : Args) (s : State) : Host.Outcome State Fault Refusal :=
  .next (selectEffect m x s)

/-- RESTART (R175). -/
def execRestart (m : Master) (x : Args) (s : State) : Host.Outcome State Fault Refusal := .next (restartEffect m x s)

/-- RESTART_TAKES_EFFECT (R175). -/
def execRestartTakesEffect (phys : Phys) (s : State) : Host.Outcome State Fault Refusal :=
  .next (restartTakesEffect phys s)

end Sys2Proof.Machine
end

