-- ==== Sys2Proof/Machine/Dispatch.lean ====
section
/-! DEFINITION. One arm for each command. -/

namespace Sys2Proof.Machine

-- What a command does to everything but the queue.
def exec (i : Instr) (s : State) : Host.Outcome State Fault Refusal :=
  match i with
  | .powerOn phys => Sys2Proof.Machine.execPowerOn phys s
  | .resetPin phys => Sys2Proof.Machine.execResetPin phys s
  | .startQuietEnd => Sys2Proof.Machine.execStartQuietEnd s
  | .lineFrameReceive l f => Sys2Proof.Machine.execLineFrameReceive l f s
  | .bayFrameReceive m f => Sys2Proof.Machine.execBayFrameReceive m f s
  | .bayLinkUp m => Sys2Proof.Machine.execBayLinkUp m s
  | .bayLinkDown m => Sys2Proof.Machine.execBayLinkDown m s
  | .lineLinkLoss l => Sys2Proof.Machine.execLineLinkLoss l s
  | .glitch l => Sys2Proof.Machine.execGlitch l s
  | .linkFailExpiry l => Sys2Proof.Machine.execLinkFailExpiry l s
  | .lineLinkUp l => Sys2Proof.Machine.execLineLinkUp l s
  | .settleExpiry l => Sys2Proof.Machine.execSettleExpiry l s
  | .probeLimitExpiry l => Sys2Proof.Machine.execProbeLimitExpiry l s
  | .rollCallTimerExpiry => Sys2Proof.Machine.execRollCallTimerExpiry s
  | .lineTransmitStart l => Sys2Proof.Machine.execLineTransmitStart l s
  | .lineTransmitDone l => Sys2Proof.Machine.execLineTransmitDone l s
  | .bayTransmitStart m => Sys2Proof.Machine.execBayTransmitStart m s
  | .bayTransmitDone m => Sys2Proof.Machine.execBayTransmitDone m s
  | .pacingTimerExpiry m => Sys2Proof.Machine.execPacingTimerExpiry m s
  | .pairExpiry index => Sys2Proof.Machine.execPairExpiry index s
  | .silenceExpiry index => Sys2Proof.Machine.execSilenceExpiry index s
  | .forgetExpiry index => Sys2Proof.Machine.execForgetExpiry index s
  | .holdExpiry index => Sys2Proof.Machine.execHoldExpiry index s
  | .alertHoldExpiry => Sys2Proof.Machine.execAlertHoldExpiry s
  | .secondsTick => Sys2Proof.Machine.execSecondsTick s
  | .cutTransaction m received => Sys2Proof.Machine.execCutTransaction m received s
  | .unknownCommand m code x => Sys2Proof.Machine.execUnknownCommand m code x s
  | .identify m x => Sys2Proof.Machine.execIdentify m x s
  | .readOrigin m x => Sys2Proof.Machine.execReadOrigin m x s
  | .findOrigin m x => Sys2Proof.Machine.execFindOrigin m x s
  | .readGroup m x => Sys2Proof.Machine.execReadGroup m x s
  | .readPort m x => Sys2Proof.Machine.execReadPort m x s
  | .readTime m x => Sys2Proof.Machine.execReadTime m x s
  | .stage m x => Sys2Proof.Machine.execStage m x s
  | .discardStaging m x => Sys2Proof.Machine.execDiscardStaging m x s
  | .apply m x => Sys2Proof.Machine.execApply m x s
  | .applyTaken => Sys2Proof.Machine.execApplyTaken s
  | .readApplyResult m x => Sys2Proof.Machine.execReadApplyResult m x s
  | .readEvents m x => Sys2Proof.Machine.execReadEvents m x s
  | .ackEvents m x => Sys2Proof.Machine.execAckEvents m x s
  | .setEventMask m x => Sys2Proof.Machine.execSetEventMask m x s
  | .readChanges m x => Sys2Proof.Machine.execReadChanges m x s
  | .ackRestart m x => Sys2Proof.Machine.execAckRestart m x s
  | .saveSet m x => Sys2Proof.Machine.execSaveSet m x s
  | .saveCompletion verified => Sys2Proof.Machine.execSaveCompletion verified s
  | .selectStartSet m x => Sys2Proof.Machine.execSelectStartSet m x s
  | .restart m x => Sys2Proof.Machine.execRestart m x s
  | .restartTakesEffect phys => Sys2Proof.Machine.execRestartTakesEffect phys s

end Sys2Proof.Machine
end

