-- ==== Sys2Proof/Safety.lean ====
section
/-! DEFINITION. What the manual promises of every state between two events: the bounds of its queues, tables and
fields, and the relations it states between them. Each predicate is a check on plain data. -/

namespace Sys2Proof

/-! ## Commands as the statements name them -/

/-- The control link a command arrives on. -/
def Instr.link : Instr → Option Master
  | .powerOn _ => none
  | .resetPin _ => none
  | .startQuietEnd => none
  | .lineFrameReceive _ _ => none
  | .bayFrameReceive _ _ => none
  | .bayLinkUp _ => none
  | .bayLinkDown _ => none
  | .lineLinkLoss _ => none
  | .glitch _ => none
  | .linkFailExpiry _ => none
  | .lineLinkUp _ => none
  | .settleExpiry _ => none
  | .probeLimitExpiry _ => none
  | .rollCallTimerExpiry => none
  | .lineTransmitStart _ => none
  | .lineTransmitDone _ => none
  | .bayTransmitStart _ => none
  | .bayTransmitDone _ => none
  | .pacingTimerExpiry _ => none
  | .pairExpiry _ => none
  | .silenceExpiry _ => none
  | .forgetExpiry _ => none
  | .holdExpiry _ => none
  | .alertHoldExpiry => none
  | .secondsTick => none
  | .cutTransaction m _ => some m
  | .unknownCommand m _ _ => some m
  | .identify m _ => some m
  | .readOrigin m _ => some m
  | .findOrigin m _ => some m
  | .readGroup m _ => some m
  | .readPort m _ => some m
  | .readTime m _ => some m
  | .stage m _ => some m
  | .discardStaging m _ => some m
  | .apply m _ => some m
  | .applyTaken => none
  | .readApplyResult m _ => some m
  | .readEvents m _ => some m
  | .ackEvents m _ => some m
  | .setEventMask m _ => some m
  | .readChanges m _ => some m
  | .ackRestart m _ => some m
  | .saveSet m _ => some m
  | .saveCompletion _ => none
  | .selectStartSet m _ => some m
  | .restart m _ => some m
  | .restartTakesEffect _ => none

/-- The number of argument bytes of a command that has one of its own (R161 step 5); STAGE's follows its item kind. -/
def Instr.fixedLength : Instr → Option Nat
  | .powerOn _ => none
  | .resetPin _ => none
  | .startQuietEnd => none
  | .lineFrameReceive _ _ => none
  | .bayFrameReceive _ _ => none
  | .bayLinkUp _ => none
  | .bayLinkDown _ => none
  | .lineLinkLoss _ => none
  | .glitch _ => none
  | .linkFailExpiry _ => none
  | .lineLinkUp _ => none
  | .settleExpiry _ => none
  | .probeLimitExpiry _ => none
  | .rollCallTimerExpiry => none
  | .lineTransmitStart _ => none
  | .lineTransmitDone _ => none
  | .bayTransmitStart _ => none
  | .bayTransmitDone _ => none
  | .pacingTimerExpiry _ => none
  | .pairExpiry _ => none
  | .silenceExpiry _ => none
  | .forgetExpiry _ => none
  | .holdExpiry _ => none
  | .alertHoldExpiry => none
  | .secondsTick => none
  | .cutTransaction _ _ => none
  | .unknownCommand _ _ _ => none
  | .identify _ _ => some 0
  | .readOrigin _ _ => some 2
  | .findOrigin _ _ => some 6
  | .readGroup _ _ => some 1
  | .readPort _ _ => some 2
  | .readTime _ _ => some 0
  | .stage _ _ => none
  | .discardStaging _ _ => some 0
  | .apply _ _ => some 0
  | .applyTaken => none
  | .readApplyResult _ _ => some 0
  | .readEvents _ _ => some 0
  | .ackEvents _ _ => some 2
  | .setEventMask _ _ => some 2
  | .readChanges _ _ => some 0
  | .ackRestart _ _ => some 0
  | .saveSet _ _ => some 1
  | .saveCompletion _ => none
  | .selectStartSet _ _ => some 1
  | .restart _ _ => some 0
  | .restartTakesEffect _ => none

end Sys2Proof

namespace Sys2Proof.Machine

/-! ## Ports -/

/-- A line port's queues hold at most 48 protection and 96 background frames (R127). -/
def LinePort.queuesFit (p : LinePort) : Prop :=
  p.prot.length ≤ Config.lineProtMax ∧ p.back.length ≤ Config.lineBackMax

/-- A bay port's queues hold at most 64 protection and 128 background frames (R139). -/
def BayPort.queuesFit (p : BayPort) : Prop :=
  p.prot.length ≤ Config.bayProtMax ∧ p.back.length ≤ Config.bayBackMax

/-- Every egress queue is within its size (R127, R139). -/
def QueuesBounded (s : State) : Prop :=
  s.lines.a.queuesFit ∧ s.lines.b.queuesFit ∧ s.bays.one.queuesFit ∧ s.bays.two.queuesFit

/-- A line port that is Down holds nothing and times nothing (R117), and transmits nothing, nor does one whose link-fail
timer runs (R127, R128); the Unconfirmed flag qualifies Probing alone (R121, R123); a settling port has an empty run
(R120); a run has length 0..3. -/
def LinePort.consistent (p : LinePort) : Prop :=
  (p.state = .down →
    p.prot = [] ∧ p.back = [] ∧ p.run = .empty ∧ p.unconfirmed = false ∧ p.linkFail = none ∧ p.settle = none ∧
      p.probe = none) ∧
  (p.state = .down ∨ p.linkFail ≠ none → p.sending = none) ∧
  (p.unconfirmed = true → p.state = .probing) ∧
  (p.state = .settling → p.run = .empty) ∧
  p.run.len ≤ 3

/-- A bay port that is Link-down knows no station, holds no frame and paces nothing (R16, R139, R141). -/
def BayPort.consistent (p : BayPort) : Prop :=
  p.up = false → p.station = none ∧ p.prot = [] ∧ p.back = [] ∧ p.sending = none ∧ p.pacing = none

/-- The four ports are consistent. -/
def PortsConsistent (s : State) : Prop :=
  s.lines.a.consistent ∧ s.lines.b.consistent ∧ s.bays.one.consistent ∧ s.bays.two.consistent

/-- While the start quiet runs, both line ports' queues are empty and the roll-call timer is stopped (R126). -/
def QuietHolds (s : State) : Prop :=
  s.quiet.isSome = true →
    s.rollTimer = none ∧ s.lines.a.prot = [] ∧ s.lines.a.back = [] ∧ s.lines.b.prot = [] ∧ s.lines.b.back = []

/-- The alert hold timer runs exactly while the bay is in Alert (R142, R143). -/
def AlertTimed (s : State) : Prop := s.alert = .alert ↔ s.alertHold.isSome = true

/-! ## Windows and lane states (R55, R67, R73, R75) -/

/-- The window part of a record between events (R55, R67). -/
def Window.sound (w : Window) : Prop :=
  w.staleRun ≤ 2 ∧ w.pairs.length ≤ Config.maxPairs ∧
  (w.pairs.map (·.seq)).Nodup ∧
  (∀ p ∈ w.pairs, offsetBehind w.highest p.seq ≤ 63 ∧ w.delivered.getLsbD (offsetBehind w.highest p.seq) = true) ∧
  (w.seeded = true → w.delivered.getLsbD 0 = true) ∧
  (w.seeded = false → w.delivered = 0 ∧ w.pairs = [] ∧ w.staleRun = 0)

/-- A record's window is sound, its miss runs are at most 255, and it is Silent exactly while its window is unseeded
(R55, R73). -/
def Origin.judgeable (r : Origin) : Prop :=
  r.win.sound ∧ r.lane.miss.a ≤ 255 ∧ r.lane.miss.b ≤ 255 ∧ (r.win.seeded = false ↔ r.lane.state = .silent)

/-- Every record is judgeable. -/
def WindowsSound (s : State) : Prop := ∀ e ∈ s.origins, e.2.judgeable

/-- Every record that is not Silent shows the lane state its miss runs give (R75). -/
def LaneStatesCurrent (s : State) : Prop :=
  ∀ e ∈ s.origins, e.2.lane.state ≠ .silent → e.2.lane.state = laneStateOf s.globals.lossLimit e.2.lane.miss

/-! ## Skew (R79, R92, R96) -/

/-- A skew value within ±524,272 sixteenths (R79). -/
def skewFits (v : Int) : Prop := -Config.maxSkew ≤ v ∧ v ≤ Config.maxSkew

/-- A record's manual baseline, filtered skew, baseline and deviation are in range (R79, R92). -/
def Origin.skewInRange (r : Origin) : Prop :=
  skewFits r.cfg.manual ∧ skewFits r.pipe.filtered ∧ skewFits r.pipe.baseline ∧ skewFits r.pipe.dev ∧
    -(2 * Config.maxSkew) ≤ r.pipe.raw ∧ r.pipe.raw ≤ 2 * Config.maxSkew

/-- The manual baselines a stored set holds are in range. -/
def SetContent.manualFits (c : SetContent) : Prop := ∀ e ∈ c.origins, skewFits e.2.cfg.manual

/-- Something holds of the content of both user sets and of the snapshot of a save in flight. -/
def storedAll (p : SetContent → Prop) (s : State) : Prop :=
  p s.set1.content ∧ p s.set2.content ∧ ∀ r, s.save = some r → p r.snapshot

/-- Every skew value of the part is in range. -/
def SkewBounded (s : State) : Prop := (∀ e ∈ s.origins, e.2.skewInRange) ∧ storedAll SetContent.manualFits s

/-- The hold timer runs exactly in Auto mode at Excess or Gross (R96). -/
def Origin.holdMatches (r : Origin) : Prop :=
  r.pipe.hold.isSome = true ↔ r.cfg.mode = .auto ∧ r.pipe.level.high = true

/-- Every record's hold timer matches its mode and level. -/
def HoldTimersMatch (s : State) : Prop := ∀ e ∈ s.origins, e.2.holdMatches

/-! ## Tables (R33, R35, R43, R132, R155) -/

/-- A delivery table in canonical form: slots 0..63 rising, every delivery set non-empty (R132). -/
def groupsSound (t : List (Nat × Group)) : Prop :=
  tabWf Config.maxGroups t = true ∧ ∀ e ∈ t, e.2.members.one = true ∨ e.2.members.two = true

/-- No two entries of a table hold the same address (R33, R132). -/
def addrsUnique {α : Type} (addr : α → Addr) (t : List (Nat × α)) : Prop := (t.map fun e => addr e.2).Nodup

/-- No two records and no two group entries of a set hold the same address. -/
def SetContent.addrsUnique (c : SetContent) : Prop :=
  Machine.addrsUnique StoredOrigin.addr c.origins ∧ Machine.addrsUnique Group.addr c.groups

/-- No two records hold the same station address and no two delivery table entries the same group address, in the
tables, in the stored sets and in a snapshot in flight (R33, R132). -/
def AddressesUnique (s : State) : Prop :=
  addrsUnique Origin.addr s.origins ∧ addrsUnique Group.addr s.groups ∧ storedAll SetContent.addrsUnique s

/-- What a set holds is in canonical form. -/
def SetContent.canonical (c : SetContent) : Prop := tabWf Config.maxOrigins c.origins = true ∧ groupsSound c.groups

/-- Both tables, the stored sets and a snapshot in flight are in canonical form (R33, R132). -/
def TablesCanonical (s : State) : Prop :=
  tabWf Config.maxOrigins s.origins = true ∧ groupsSound s.groups ∧ storedAll SetContent.canonical s

/-- A record's kind: a learned record has a forget time, a learning note and no reference link, and a configured
record no forget time, no forget timer and no learning note (R35, R36, R37). -/
def Origin.kindSound (r : Origin) : Prop :=
  if r.learned then r.forgetTime.isSome = true ∧ r.forget.isSome = true ∧ r.note.isSome = true ∧ r.cfg.ref = none
  else r.forgetTime = none ∧ r.forget = none ∧ r.note = none

/-- Every stored record has an owner (R35, R171). -/
def SetContent.owned (c : SetContent) : Prop := ∀ e ∈ c.origins, e.2.owners.one = true ∨ e.2.owners.two = true

/-- Every record is of its kind, and stored records are configured. -/
def KindsSound (s : State) : Prop := (∀ e ∈ s.origins, e.2.kindSound) ∧ storedAll SetContent.owned s

/-- The silent order names, once each, exactly the learned records that are Silent (R43). -/
def SilentOrderExact (s : State) : Prop :=
  s.silentOrder.Nodup ∧
  ∀ i, i ∈ s.silentOrder ↔ ∃ r, originAt s i = some r ∧ r.learned = true ∧ r.lane.state = .silent

/-- Every reference link names another record, configured, with no reference link of its own (R155). -/
def LeadsSound (s : State) : Prop :=
  ∀ i r, originAt s i = some r → ∀ j, r.cfg.ref = some j →
    j ≠ i ∧ ∃ lead, originAt s j = some lead ∧ lead.learned = false ∧ lead.cfg.ref = none

/-- The same of what a set stores. -/
def SetContent.leadsSound (c : SetContent) : Prop :=
  ∀ i r, tabGet c.origins i = some r → ∀ j, r.cfg.ref = some j →
    j ≠ i ∧ ∃ lead, tabGet c.origins j = some lead ∧ lead.cfg.ref = none

/-- Reference links are sound in the table, the stored sets and a snapshot in flight. -/
def ReferencesSound (s : State) : Prop := LeadsSound s ∧ storedAll SetContent.leadsSound s

/-! ## Control links, staging and the store -/

/-- Between two events a link's framing is idle, or its command is taken and its answer ready (R14); its flags and
mask name kinds only, its change set is strictly rising and below 256, and its answer has at most 64 result bytes,
none unless the status is OK (R15, R161, R167, R170). -/
def ControlLink.sound (c : ControlLink) : Prop :=
  (c.framing = .idle ∨ c.framing = .answering ∧ c.answer ≠ none) ∧
  c.flags &&& ~~~allKinds = 0 ∧ c.mask &&& ~~~allKinds = 0 ∧ risingFrom 0 c.changes = true ∧
  (∀ i ∈ c.changes, i < Config.maxOrigins) ∧
  ∀ x, c.answer = some x → x.results.length ≤ 64 ∧ (x.status ≠ .ok → x.results = [])

/-- Both links are sound. -/
def LinksSound (s : State) : Prop := s.links.one.sound ∧ s.links.two.sound

/-- A staging area holds at most 32 items (R148). -/
def StagingBounded (s : State) : Prop :=
  s.staging.one.length ≤ Config.maxStaged ∧ s.staging.two.length ≤ Config.maxStaged

/-- A set being written is invalid, and its integrity check would fail (R171, R172). -/
def SaveInvalidates (s : State) : Prop :=
  ∀ r, s.save = some r → (s.userSet r.slot).valid = false ∧ (s.userSet r.slot).checkHolds = false


/-! ## Runs of one record's window (R76) -/

/-- Two windows agree on what decides acceptance: seeded flag, highest sequence, delivered set. -/
def Window.agrees (w v : Window) : Prop := w.seeded = v.seeded ∧ w.highest = v.highest ∧ w.delivered = v.delivered

/-- Copies judged one after another against one record, none with verdict seed or resync. Before each of them any
event may come that leaves the window's seeded flag, highest sequence and delivered set alone (a pair expiry, a
commit, a change of a port). -/
def WindowRun (g : JudgeSettings) : Closing → List (Closing × Copy) → Closing → Prop
  | c, [], e => c.orig.win.agrees e.orig.win
  | c, (d, k) :: rest, e =>
    c.orig.win.agrees d.orig.win ∧ (judge g k d).verdict ≠ .seed ∧ (judge g k d).verdict ≠ .resync ∧
      WindowRun g (judge g k d).closing rest e

/-- How far the highest accepted sequence moves in a run. -/
def runAdvance (g : JudgeSettings) : List (Closing × Copy) → Nat
  | [] => 0
  | (d, k) :: rest =>
    (if (judge g k d).verdict = .newer then seqDistance d.orig.win.highest k.seq else 0) + runAdvance g rest

/-! ## The count identity of R53 -/

/-- Accepted, less the twins discarded, the pairs closed missing (charged to the record or to a port), the pairs
abandoned and the open pairs held. R53 says that no event changes it. -/
def Closing.owed (c : Closing) : Count :=
  c.orig.cnt.accepted - c.orig.cnt.twins - c.orig.cnt.missA - c.orig.cnt.missB - c.orig.cnt.abandoned -
    c.lines.a.cnt.missUnavail - c.lines.b.cnt.missUnavail - BitVec.ofNat 32 c.orig.win.pairs.length

/-! ## Counts, start sets and the STAGE layout -/

/-- The sum of a bay port's three sent counts (R30). -/
def BayCounts.sentSum (c : BayCounts) : Count := c.sentTrip + c.sentSample + c.sentBulk

/-- The set start-up loads: the chosen one when its check holds, else set 0 (R174 step 2). -/
def startContent (s : State) : SetContent :=
  match s.startSet with
  | .s0 => factorySet
  | .s1 => if s.set1.checkHolds then s.set1.content else factorySet
  | .s2 => if s.set2.checkHolds then s.set2.content else factorySet

/-- Whether start-up finds the chosen set invalid (R174 step 2). -/
def startRejected (s : State) : Bool :=
  match s.startSet with
  | .s0 => false
  | .s1 => !s.set1.checkHolds
  | .s2 => !s.set2.checkHolds

/-- The number of a global setting (R162). -/
def GlobalSetting.number : GlobalSetting → Nat
  | .pairTimeout => 0
  | .lossLimit => 1
  | .learning => 2
  | .profileMode => 3
  | .profileK => 4
  | .profileJ => 5
  | .profileM => 6
  | .profileC => 7
  | .profileThresholds => 8
  | .profileSpike => 9
  | .profileHi => 10
  | .profileLo => 11
  | .profileHold => 12
  | .profileSilence => 13
  | .profileForget => 14
  | .band => 15
  | .rollInterval => 16
  | .probeLimit => 17
  | .linkFailTime => 18
  | .settleTime => 19
  | .startQuiet => 20
  | .alertHold => 21

/-- The number of a bay-port setting (R162). -/
def BaySetting.number : BaySetting → Nat
  | .policy => 0
  | .shedding => 1
  | .gap => 2

/-- STAGE's argument bytes for an item (R162, the STAGE layout). -/
def Item.bytes : Item → List Byte
  | .originPut a f =>
    byteField 0 ++ addrBytes a ++ byteField f.mode.position ++ skewField f.manual ++ byteField f.k ++ byteField f.j ++
      byteField f.m ++ wordField f.t1 ++ wordField f.t2 ++ wordField f.t3 ++ byteField f.c ++ wordField f.spike ++
      flagField f.hi ++ flagField f.lo ++ byteField f.hold ++ optField 6 addrBytes f.ref ++ byteField f.weight ++
      flagField f.suppress ++ byteField f.silence ++ flagField f.reseed
  | .originDelete a => byteField 1 ++ addrBytes a
  | .originShare a => byteField 2 ++ addrBytes a
  | .groupJoin a cls => byteField 3 ++ addrBytes a ++ byteField cls.position
  | .groupLeave a => byteField 4 ++ addrBytes a
  | .globalPut g v1 v2 v3 => byteField 5 ++ byteField g.number ++ wordField v1 ++ wordField v2 ++ wordField v3
  | .bayPut b v => byteField 6 ++ byteField b.number ++ wordField v

/-- The numbers of an origin put fit the bytes of the layout. -/
def PutFields.fits (f : PutFields) : Prop :=
  -8388608 ≤ f.manual ∧ f.manual < 8388608 ∧ f.k < 256 ∧ f.j < 256 ∧ f.m < 256 ∧ f.t1 < 65536 ∧ f.t2 < 65536 ∧
  f.t3 < 65536 ∧ f.c < 256 ∧ f.spike < 65536 ∧ f.hold < 256 ∧ f.weight < 256 ∧ f.silence < 256 ∧
  ∀ a, f.ref = some a → groupBit a = false

/-- An item the form checks of R149 admit: individual addresses for origins, group addresses other than broadcast for
groups, codes within their values, numbers within their bytes. -/
def Item.fits : Item → Prop
  | .originPut a f => groupBit a = false ∧ f.fits
  | .originDelete a => groupBit a = false
  | .originShare a => groupBit a = false
  | .groupJoin a _ => isGroup a = true
  | .groupLeave a => isGroup a = true
  | .globalPut g v1 v2 v3 =>
    v1 < 65536 ∧ v2 < 65536 ∧ v3 < 65536 ∧ (g ≠ .profileThresholds → v1 = 0 ∧ v2 = 0) ∧
      codeAdmitted (globalMaxCode g) v3 = true
  | .bayPut b v => v < 65536 ∧ codeAdmitted (bayMaxCode b) v = true

/-! ## What the tables promise together -/

/-- The tables, the records and the links are sound together, and addresses name one entry each. -/
def TablesSound (s : State) : Prop :=
  TablesCanonical s ∧ AddressesUnique s ∧ WindowsSound s ∧ KindsSound s ∧ SilentOrderExact s ∧ ReferencesSound s ∧
  LinksSound s

/-! ## Settings in their ranges (chapter 3, 3.2; R133, R162) -/

/-- The settings of a record within the ranges of section 3.2; the manual baseline is `SkewBounded`'s. -/
def OriginSettings.inRange (c : OriginSettings) : Prop :=
  c.k ≤ 4 ∧ 4 ≤ c.j ∧ c.j ≤ 11 ∧ 1 ≤ c.m ∧ c.m ≤ 255 ∧ 1 ≤ c.t1 ∧ c.t1 < c.t2 ∧ c.t2 < c.t3 ∧ c.t3 ≤ 32767 ∧
  1 ≤ c.c ∧ c.c ≤ 4 ∧ 1 ≤ c.spike ∧ c.spike ≤ 32767 ∧ 1 ≤ c.hold ∧ c.hold ≤ 255 ∧ c.weight ≤ 128 ∧
  1 ≤ c.silence ∧ c.silence ≤ 255

/-- A record's settings and forget time are in range. -/
def Origin.settingsInRange (r : Origin) : Prop :=
  r.cfg.inRange ∧ ∀ n, r.forgetTime = some n → 1 ≤ n ∧ n ≤ 255

/-- The learned profile is in range. -/
def Profile.inRange (p : Profile) : Prop := (learnedSettings p).inRange ∧ 1 ≤ p.forget ∧ p.forget ≤ 255

/-- The global settings are in the ranges of R162. -/
def Globals.inRange (g : Globals) : Prop :=
  1 ≤ g.pairTimeout ∧ g.pairTimeout ≤ 255 ∧ 1 ≤ g.lossLimit ∧ g.lossLimit ≤ 15 ∧ g.profile.inRange ∧
  1 ≤ g.rollInterval ∧ g.rollInterval ≤ 80 ∧ 1 ≤ g.probeLimit ∧ g.probeLimit ≤ 30 ∧
  (g.linkFailTime = 0 ∨ g.linkFailTime = 5 ∨ g.linkFailTime = 20 ∨ g.linkFailTime = 100) ∧
  g.settleTime ≤ 255 ∧ g.startQuiet ≤ 50 ∧ 1 ≤ g.alertHold ∧ g.alertHold ≤ 255

/-- Both bay ports' pacing gaps are at most 65,535 µs (R133). -/
def gapsInRange (b : PerMaster BaySettings) : Prop := b.one.gap ≤ 65535 ∧ b.two.gap ≤ 65535

/-- What a set holds is in range. -/
def SetContent.inRange (c : SetContent) : Prop :=
  (∀ e ∈ c.origins, e.2.cfg.inRange) ∧ c.globals.inRange ∧ gapsInRange c.bayCfg

/-- Every setting of the part is in its range, and every staged item is one the form checks admit (R149). -/
def SettingsInRange (s : State) : Prop :=
  (∀ e ∈ s.origins, e.2.settingsInRange) ∧ s.globals.inRange ∧ gapsInRange s.bayCfg ∧
  storedAll SetContent.inRange s ∧ (∀ it ∈ s.staging.one, it.fits) ∧ ∀ it ∈ s.staging.two, it.fits

/-- All of the above. -/
def AllSound (s : State) : Prop :=
  QueuesBounded s ∧ PortsConsistent s ∧ QuietHolds s ∧ AlertTimed s ∧ LaneStatesCurrent s ∧ SkewBounded s ∧
  HoldTimersMatch s ∧ TablesSound s ∧ StagingBounded s ∧ SaveInvalidates s ∧ SettingsInRange s

/-! ## Delivery of a lane frame (R135 to R138, R145) -/

/-- The frame an offer brings finds no room in its queue, at a Link-up port that does not shed it (R137). -/
def BayPort.drops (bay : AlertState) (shedding : Bool) (f : Frame) (q : BayPort) : Prop :=
  q.up = true ∧ ¬ (f.cls = .bulk ∧ bay = .alert ∧ shedding = true) ∧
    if f.cls = .bulk then 128 ≤ q.back.length else 64 ≤ q.prot.length

/-- A bay port after an offer, by the steps of R137: not Link-up, shed, queued, or dropped and counted. -/
def BayPort.offered (bay : AlertState) (shedding : Bool) (f : Frame) (q : BayPort) : BayPort :=
  if q.up = false then q
  else if f.cls = .bulk ∧ bay = .alert ∧ shedding = true then
    { q with cnt := { q.cnt with shedBay := q.cnt.shedBay + 1 } }
  else if f.cls = .bulk then
    if q.back.length < 128 then { q with back := q.back ++ [f] }
    else { q with cnt := { q.cnt with dropBack := q.cnt.dropBack + 1 } }
  else if q.prot.length < 64 then { q with prot := q.prot ++ [f] }
  else { q with cnt := { q.cnt with dropProt := q.cnt.dropProt + 1 } }

/-- The bay ports a lane frame's destination names: both for broadcast, the delivery set of a group with an entry, the
ports whose policy is deliver for one without, the holders of an individual address (R135, R136). -/
def Targeted (s : State) (dest : Addr) (m : Master) : Prop :=
  dest = 0xFFFFFFFFFFFF#48 ∨
  (∃ i g, isGroup dest = true ∧ findGroup s.groups dest = some (i, g) ∧ g.members.get m = true) ∨
  (isGroup dest = true ∧ findGroup s.groups dest = none ∧ (s.bayCfg.get m).policy = .deliver) ∨
  (groupBit dest = false ∧ (s.bays.get m).station = some dest)

/-- A frame taken in on a line port is delivered from `v` to `u`: each targeted bay port decides its own offer, a
drop raises QUEUE DROP on both links, an untargeted port changes at most its unknown-group count, an individual
address that no port holds counts as not for bay, and nothing else changes (R135 to R138). -/
def DeliveredAs (l : Lane) (dest : Addr) (f : Frame) (v u : State) : Prop :=
  let unknown := isGroup dest = true ∧ findGroup v.groups dest = none
  let nowhere := groupBit dest = false ∧ ∀ m, (v.bays.get m).station ≠ some dest
  let dropped := ∃ m, Targeted v dest m ∧ (v.bays.get m).drops v.alert (v.bayCfg.get m).shedding f
  let p := v.lines.get l
  let told := fun c : ControlLink => { c with flags := c.flags ||| EventKind.queueDrop.bit }
  (∀ m, let q := v.bays.get m
    (Targeted v dest m → u.bays.get m = q.offered v.alert (v.bayCfg.get m).shedding f) ∧
    (¬ Targeted v dest m → unknown →
      u.bays.get m = { q with cnt := { q.cnt with unknownDropped := q.cnt.unknownDropped + 1 } }) ∧
    (¬ Targeted v dest m → ¬ unknown → u.bays.get m = q)) ∧
  (nowhere → u.lines = v.lines.set l { p with cnt := { p.cnt with notForBay := p.cnt.notForBay + 1 } }) ∧
  (¬ nowhere → u.lines = v.lines) ∧
  (dropped → u.links = ⟨told v.links.one, told v.links.two⟩) ∧ (¬ dropped → u.links = v.links) ∧
  u = { v with bays := u.bays, lines := u.lines, links := u.links }

/-- One more malformed roll-call counted on a line port, and nothing else (R11, R13). -/
def MalformedAt (l : Lane) (v u : State) : Prop :=
  let p := v.lines.get l
  u = v.setLine l { p with cnt := { p.cnt with rollMalformed := p.cnt.rollMalformed + 1 } }

/-- The content of a roll-call passes the five checks of R11. -/
def RollCallPasses (body : List Byte) : Prop :=
  destOf body = 0x0B4750000001#48 ∧ slice body 12 2 = [0x9A#8, 0x73#8] ∧ numAt body 14 1 = 1 ∧
    numAt body 17 1 ≤ 8 ∧ 18 + 6 * numAt body 17 1 ≤ body.length

/-- A tagged frame that judgment accepted (from the record at `announcer`) or that is an overflow frame (no announcer)
is handed on from `v` to `u` (R9, R11 to R13, R57, R142): a trip class reports to the alert unit; a frame of another
class than roll-call is delivered without its trailer under its trailer class, or counted malformed when it is for
the roll-call group (log 11 for a trip frame); a roll-call that fails a check is counted malformed; and one that
passes has its proxies taken in turn, when it was accepted, and its lane code counted toward assurance. -/
def HandedOn (announcer : Option Nat) (l : Lane) (t : Tagged) (v u : State) : Prop :=
  let w := if t.cls = .trip then tripReport v else v
  (t.cls ≠ .rollCall → t.dest ≠ 0x0B4750000001#48 → DeliveredAs l t.dest ⟨t.cls, t.body⟩ w u) ∧
  (t.cls ≠ .rollCall → t.dest = 0x0B4750000001#48 → MalformedAt l w u) ∧
  (t.cls = .rollCall → ¬ RollCallPasses t.body → MalformedAt l v u) ∧
  (t.cls = .rollCall → RollCallPasses t.body →
    (announcer = none → u = countAssurance l t.code v) ∧
    ∀ i, announcer = some i →
      u = countAssurance l t.code ((proxiesOf t.body).foldl (fun z a => takeProxy i l a z) v))

/-! ## Comparison with the last notified status (R104, R107, R109) -/

/-- A record's lead is a suppressing lead at Excess or Gross (R107). -/
def LeadHolds (s : State) (r : Origin) : Prop :=
  ∃ j lead, r.cfg.ref = some j ∧ originAt s j = some lead ∧ lead.cfg.suppress = true ∧
    (lead.pipe.level = .excess ∨ lead.pipe.level = .gross)

/-- A record's lane state is Lone-A, Lone-B or Fragmented, and the state that R75 gives with the miss run of each lane
whose port is Down or Settling taken as 0 is the last notified one, other than its own (R109). -/
def PortsHold (s : State) (r : Origin) : Prop :=
  let away := fun p : LinePort => p.state = .down ∨ p.state = .settling
  (r.lane.state = .loneA ∨ r.lane.state = .loneB ∨ r.lane.state = .fragmented) ∧
  ∃ x y, (away s.lines.a → x = 0) ∧ (¬ away s.lines.a → x = r.lane.miss.a) ∧
    (away s.lines.b → y = 0) ∧ (¬ away s.lines.b → y = r.lane.miss.b) ∧
    laneStateOf s.globals.lossLimit ⟨x, y⟩ = r.notif.lane ∧ (away s.lines.a ∨ away s.lines.b)

/-- The notification part that a notification now gives a record: every field whose difference is not held takes the
current value, and a held one keeps its last notified value (R104). -/
def Unheld (s : State) (r : Origin) (n : Notified) : Prop :=
  (LeadHolds s r → n.level = r.notif.level ∧ n.dir = r.notif.dir) ∧
  (¬ LeadHolds s r → n.level = r.pipe.level ∧ n.dir = r.pipe.dir) ∧
  (PortsHold s r → n.lane = r.notif.lane) ∧ (¬ PortsHold s r → n.lane = r.lane.state)

/-- Records compare their status with what was last notified, from `s` to `t`, and those that find an unheld
difference, or for which the event is a cause (R106), notify both masters: the notification part follows, the index
joins both change sets, and ORIGIN CHANGE is raised on both links. Nothing else changes (R104, R105). -/
def Compared (compares causes : Nat → Origin → Prop) (s t : State) : Prop :=
  let notifies := fun (i : Nat) (r : Origin) =>
    originAt s i = some r ∧ compares i r ∧ (causes i r ∨ ¬ Unheld s r r.notif)
  let told := fun c d : ControlLink =>
    (∀ i, i ∈ d.changes ↔ i ∈ c.changes ∨ ∃ r, notifies i r) ∧
    ((∃ i r, notifies i r) → d.flags = c.flags ||| EventKind.originChange.bit) ∧
    ((¬ ∃ i r, notifies i r) → d = c) ∧ d = { c with flags := d.flags, changes := d.changes }
  (∀ i, originAt s i = none → originAt t i = none) ∧
  (∀ i r, originAt s i = some r → ∃ n, originAt t i = some { r with notif := n } ∧
    (notifies i r → Unheld s r n) ∧ (¬ notifies i r → n = r.notif)) ∧
  told s.links.one t.links.one ∧ told s.links.two t.links.two ∧
  t = { s with origins := t.origins, links := t.links }

/-! ## Commits (R99 to R101, R155) -/

/-- What a commit of new settings makes of a record's pipeline, the reseed-pipeline request included (R99 to R101). -/
def CommittedPipe (old new : OriginSettings) (reseed : Bool) (p q : Pipeline) : Prop :=
  ∃ c : Pipeline,
    (new.mode ≠ old.mode →
      (new.mode = .off → c = { p with raw := 0, dev := 0, dir := .neither, level := .steady, cand := .steady,
                                      candCount := 0, hold := none }) ∧
      (new.mode = .auto →
        c = { p with hold := if p.level = .excess ∨ p.level = .gross then some new.hold else none }) ∧
      (new.mode = .manual → c = { p with baseline := new.manual, hold := none }) ∧
      (new.mode = .capture → c = { p with hold := none })) ∧
    (new.mode = old.mode →
      c = { p with baseline := if new.mode = .manual ∧ new.manual ≠ old.manual then new.manual else p.baseline,
                   hold := if p.hold ≠ none ∧ new.hold ≠ old.hold then some new.hold else p.hold }) ∧
    (reseed = false ∨ c.seeded = false → q = c) ∧
    (reseed = true → c.seeded = true →
      q = { seeded := false, filtered := 0, baseline := if new.mode = .manual then new.manual else 0, raw := 0, dev := 0,
            dir := .neither, level := .steady, cand := .steady, candCount := 0, decim := 0, hold := none })

/-- A put's reference link resolved to an index: none for an absent link, and for a present one the index of another,
configured record without a link of its own, while no record names the put's own record as its lead (R155). -/
def RefResolves (s : State) (own : Addr) (ref : Option Addr) (x : Option Nat) : Prop :=
  match ref with
  | none => x = none
  | some a =>
    a ≠ own ∧ (∃ i lead, x = some i ∧ findOrigin s a = some (i, lead) ∧ lead.learned = false ∧ lead.cfg.ref = none) ∧
      ∀ me r, findOrigin s own = some (me, r) → ∀ e ∈ s.origins, e.2.cfg.ref ≠ some me

/-- Items committed one after another, each in the state the earlier ones left, with what each reports of a clamp
(R153, R158). -/
def CommitsInTurn (m : Master) : List Item → State → List Bool → State → Prop
  | [], s, clamps, u => clamps = [] ∧ u = s
  | it :: its, s, clamps, u =>
    ∃ v c rest, commitItem m it s = .ok (v, c) ∧ clamps = c :: rest ∧ CommitsInTurn m its v rest u

/-- The number, from 1, of the first item that reports a clamp, and 0 when none does (R159). -/
def FirstClamped (clamps : List Bool) (first : Nat) : Prop :=
  (first = 0 → ∀ c ∈ clamps, c = false) ∧
  (first ≠ 0 → clamps[first - 1]? = some true ∧ ∀ k, k + 1 < first → clamps[k]? = some false)

/-- The argument bytes of a STAGE have the length of their item kind: kinds 0 to 6, in R149's order (R162). -/
def FormLengthRight (bs : List Byte) : Prop := [37, 7, 7, 8, 7, 8, 4][numAt bs 0 1]? = some bs.length

/-- The argument bytes of a STAGE name an address or a setting their kind does not admit, or hold a code outside its
values (R149), at the places of the STAGE layout (R162). -/
def FormIndexBad (bs : List Byte) : Prop :=
  let kind := numAt bs 0 1
  let a := addrAt bs 1
  let code := fun i => numAt bs i 1
  (kind ≤ 2 ∧ groupBit a = true) ∨
  (kind = 0 ∧ (3 < code 7 ∨ (∃ i ∈ [23, 24, 26, 34, 36], 1 < code i) ∨
    (code 26 = 1 ∧ groupBit (addrAt bs 27) = true))) ∨
  ((kind = 3 ∨ kind = 4) ∧ isGroup a = false) ∨
  (kind = 3 ∧ 2 < code 7) ∨
  (kind = 5 ∧ (21 < code 1 ∨ (code 1 ∈ [2, 10, 11, 15] ∧ 1 < numAt bs 6 2) ∨ (code 1 = 3 ∧ 3 < numAt bs 6 2))) ∨
  (kind = 6 ∧ (2 < code 1 ∨ (code 1 ≤ 1 ∧ 1 < numAt bs 2 2)))

/-- A number taken into a range: itself inside it, the nearer limit outside it (R157). -/
def Limited (lo hi v w : Nat) : Prop := (lo ≤ v → v ≤ hi → w = v) ∧ (v < lo → w = lo) ∧ (hi < v → w = hi)

end Sys2Proof.Machine
end

