-- ==== Sys2Proof/Certificates/Slice0/Obligations.lean ====
section
/-! DEFINITION. The statements about the model. -/

open Sys2Proof Sys2Proof.Machine

/-- O1 (tier 1). For every command c, every queue rest and every state s, one step of s with c in front of rest is
exec of c on s with the queue rest. (95_what_each_step_holds.md) -/
def Obligations.StepRunsTheFrontCommand : Prop :=
  ∀ (c : Instr) (rest : List Instr) (s : State),
    step { s with pending := c :: rest } = exec c { s with pending := rest }

/-- O2 (tier 1). With no command waiting, a step answers the same state with the tick counter one higher modulo 2^32.
That a step on an empty queue is one tick is the model's choice (log 2). (00_scope.md section 5) -/
def Obligations.EmptyQueueStepIsOneClockTick : Prop :=
  ∀ s : State, s.pending = [] → step s = .next { s with tick := s.tick + 1 }

/-- O3 (tier 2). For every command and every state exec answers a next state, with the station address, the revision
and the queue of waiting commands unchanged. Address and revision are fixed at manufacture. That every command
completes in every state rests on the model having no faults (log 25, DEDUCED) and, for operands that cannot occur, on
log 28 (DESIGN CHOICE); that a reset keeps the queue is the model's choice (log 26).
(10_control_links_and_reporting.md R163; 95_what_each_step_holds.md) -/
def Obligations.EveryCommandCompletesKeepingIdentityAndQueue : Prop :=
  ∀ (c : Instr) (s : State), ∃ t, exec c s = .next t ∧
    t.station = s.station ∧ t.revision = s.revision ∧ t.pending = s.pending

/-- O4 (tier 2). A command that is no power-on and no reset pin keeps the tick counter, and the seconds unless it is
SECONDS_TICK. One that is no RESTART_TAKES_EFFECT either keeps the restart count, the global and bay-port settings and
the delivery table unless it is APPLY_TAKEN, what the user sets hold unless it is SAVE_COMPLETION, their checks and
marks and the save record unless it is SAVE_SET or SAVE_COMPLETION, and the start-set choice unless it is one of these
or SELECT_START_SET. That a command does not move the tick counter is the model's choice (log 2); that SAVE SET leaves
what the set holds as it is while the set is invalid is the model's choice (log 18). (08_delivery_to_the_bay.md R133;
09_staging_ownership_and_apply.md R158; 11_stored_settings_and_start_up.md sections 11.1 to 11.4;
07_line_ports_and_lane_assurance.md R129) -/
def Obligations.OnlyTheirOwnEventsChangeClockSettingsAndStore : Prop :=
  ∀ (c : Instr) (s t : State), exec c s = .next t → (∀ p, c ≠ .powerOn p) → (∀ p, c ≠ .resetPin p) →
    t.tick = s.tick ∧ (c ≠ .secondsTick → t.seconds = s.seconds) ∧
    ((∀ p, c ≠ .restartTakesEffect p) →
      t.restarts = s.restarts ∧
      (c ≠ .applyTaken → t.globals = s.globals ∧ t.bayCfg = s.bayCfg ∧ t.groups = s.groups) ∧
      ((∀ v, c ≠ .saveCompletion v) →
        t.set1.content = s.set1.content ∧ t.set2.content = s.set2.content ∧
        ((∀ m x, c ≠ .saveSet m x) →
          t.set1 = s.set1 ∧ t.set2 = s.set2 ∧ t.save = s.save ∧
          ((∀ m x, c ≠ .selectStartSet m x) → t.startSet = s.startSet))))

/-- O5 (tier 2). A command that arrives on link m changes nothing of the other link (flags, mask, change set, cut
count, answer), nothing of the other master's staging area, pending apply, apply result and save result, and nothing
of the origin table, the silent order, the delivery table, the ports, the settings, the alert unit, the roll-call unit
and the start quiet. (06_leads_and_origin_notification.md R114; 09_staging_ownership_and_apply.md R148-R151;
10_control_links_and_reporting.md R168) -/
def Obligations.LinkCommandsTouchOnlyTheirLinkAndMaster : Prop :=
  ∀ (c : Instr) (m : Master) (s t : State), c.link = some m → exec c s = .next t →
    t.links.get (otherMaster m) = s.links.get (otherMaster m) ∧
    t.staging.get (otherMaster m) = s.staging.get (otherMaster m) ∧
    t.applyPending.get (otherMaster m) = s.applyPending.get (otherMaster m) ∧
    t.applyResult = s.applyResult ∧
    t.saveResult.get (otherMaster m) = s.saveResult.get (otherMaster m) ∧
    t.origins = s.origins ∧ t.silentOrder = s.silentOrder ∧ t.groups = s.groups ∧ t.lines = s.lines ∧
    t.bays = s.bays ∧ t.globals = s.globals ∧ t.bayCfg = s.bayCfg ∧ t.alert = s.alert ∧
    t.alertHold = s.alertHold ∧ t.rollTimer = s.rollTimer ∧ t.rollSeq = s.rollSeq ∧ t.quiet = s.quiet

/-- O6 (tier 2). From an idle framing no bytes come to nothing, a period that ends early to a cut, and the rest to the
row of its command byte with the n bytes after the length byte, or none for a length above 64; later bytes are
ignored. The link drives FFh until then, FFh FFh, status, result length and results from then on, and FFh after, the
status bytes being OK 00h, BUSY 01h, FULL 02h, BAD-COMMAND 03h, BAD-LENGTH 04h and BAD-INDEX 05h. Every taken command
leaves its link an answer. When the status is not OK the results are empty and nothing but that answer has changed. A
command with a fixed argument length is answered BAD-LENGTH for a length byte above 64, else BUSY before step 3 of
start-up, else BAD-LENGTH for another length than its own. (10_control_links_and_reporting.md R160, R161;
01_frames_classes_and_the_lane_trailer.md R14, R15) -/
def Obligations.AnswerOtherThanOkHasNoEffect : Prop :=
  ([Status.ok, .busy, .full, .badCommand, .badLength, .badIndex].map Status.code =
    [0x00#8, 0x01#8, 0x02#8, 0x03#8, 0x04#8, 0x05#8]) ∧
  (∀ (m : Master) (bytes : List Byte),
    (bytes = [] → periodRow m bytes = none) ∧
    (isCut bytes = true → periodRow m bytes = some (.cutTransaction m bytes)) ∧
    ∀ code n rest, bytes = code :: n :: rest →
      (64 < n.toNat → periodRow m bytes = some (commandRow m code (.overlong n))) ∧
      (n.toNat ≤ 64 → n.toNat ≤ rest.length →
        periodRow m bytes = some (commandRow m code (.taken (rest.take n.toNat))))) ∧
  (∀ (m : Master) (code : Byte) (x : Args), (commandRow m code x).link = some m ∧
    (commandRow m code x).commandByte = some code ∧ (commandRow m code x).args = some x ∧
    (code.toNat = 0 ∨ 18 < code.toNat → commandRow m code x = .unknownCommand m code x) ∧
    (∀ i : Instr, i.link = some m → i.commandByte = some code → i.args = some x → i.wf = true →
      commandRow m code x = i)) ∧
  (∀ (c : ControlLink), (c.framing ≠ .answering → ∀ k, c.drives k = 0xFF#8) ∧
    ∀ x, c.framing = .answering → c.answer = some x →
      c.drives 0 = 0xFF#8 ∧ c.drives 1 = 0xFF#8 ∧ c.drives 2 = x.status.code ∧
      c.drives 3 = BitVec.ofNat 8 x.results.length ∧
      (∀ j b, x.results[j]? = some b → c.drives (4 + j) = b) ∧ ∀ k, 4 + x.results.length ≤ k → c.drives k = 0xFF#8) ∧
  (∀ (c : Instr) (m : Master) (s t : State), c.link = some m → c.commandByte ≠ none → exec c s = .next t →
    ∃ x, (t.links.get m).answer = some x ∧
      (x.status ≠ .ok → x.results = [] ∧
        t = s.setLink m { s.links.get m with framing := .answering, answer := some ⟨x.status, []⟩ })) ∧
  ∀ (c : Instr) (m : Master) (x : Args) (n : Nat) (s : State),
    c.link = some m → c.args = some x → c.fixedLength = some n →
    let refused := fun st => Host.Outcome.next
      (s.setLink m { s.links.get m with framing := .answering, answer := some ⟨st, []⟩ })
    (∀ k, x = .overlong k → exec c s = refused .badLength) ∧
    (∀ bs, x = .taken bs → bs.length ≤ 64 → s.ready = false → exec c s = refused .busy) ∧
    (∀ bs, x = .taken bs → bs.length ≤ 64 → s.ready = true → bs.length ≠ n → exec c s = refused .badLength)

/-- O7 (tier 1). State.reset, the part as delivered right after power-on with no PHY reporting link (the model's
choice, log 7), has its queues within their sizes, consistent ports, sound windows, skew values in range, canonical
tables, an exact silent order, sound reference links, sound control links, bounded staging areas, no half-written set
marked valid, every setting in its range and no address twice in a table. (11_stored_settings_and_start_up.md R174;
03_the_origin_table.md R54; 07_line_ports_and_lane_assurance.md R115) -/
def Obligations.ResetStateIsSound : Prop :=
  AllSound State.reset

/-- O8 (tier 3). From every state whose line port queues hold at most 48 protection and 96 background frames and whose
bay port queues hold at most 64 and 128, a step gives such a state. (07_line_ports_and_lane_assurance.md R127;
08_delivery_to_the_bay.md R139) -/
def Obligations.QueuesStayWithinTheirSizes : Prop :=
  ∀ s t : State, QueuesBounded s → step s = .next t → QueuesBounded t

/-- O9 (tier 3). Each of these holds after a step from a state in which it holds: a Down line port holds no frame in
its queues or on the wire, times nothing and has an empty run; one whose link-fail timer runs has none on the wire;
Unconfirmed qualifies Probing alone; a Link-down bay port knows no station, holds no frame and paces nothing; while
the start quiet runs both lane queues are empty and the roll-call timer is stopped; the alert hold timer runs exactly
in Alert; a staging area holds at most 32 items; a set being written is invalid. (07_line_ports_and_lane_assurance.md
R117, R120, R121, R123, R126-R128; 02_sending_on_both_lanes.md R16; 08_delivery_to_the_bay.md R141-R143;
09_staging_ownership_and_apply.md R148; 11_stored_settings_and_start_up.md R172) -/
def Obligations.PortsAlertStagingAndSaveStaySound : Prop :=
  ∀ s t : State, step s = .next t →
    (PortsConsistent s → PortsConsistent t) ∧ (QuietHolds s → QuietHolds t) ∧ (AlertTimed s → AlertTimed t) ∧
    (StagingBounded s → StagingBounded t) ∧ (SaveInvalidates s → SaveInvalidates t)

/-- O10 (tier 3). A step keeps, for every record: at most 8 open pairs, no two of one sequence, each at most 63 behind
the highest and in the delivered set; a seeded window holds its highest sequence as delivered; an unseeded one is
empty and belongs to a Silent record, and only such; the stale run is at most 2 and miss runs at most 255.
(04_twin_judgment.md R55, R67, R73) -/
def Obligations.WindowsStaySound : Prop :=
  ∀ s t : State, WindowsSound s → step s = .next t → WindowsSound t

/-- O11 (tier 3). A step keeps that every record not Silent has the lane state that its two miss runs and the loss
limit as it stands give. (04_twin_judgment.md R75) -/
def Obligations.LaneStatesFollowMissRuns : Prop :=
  ∀ s t : State, LaneStatesCurrent s → step s = .next t → LaneStatesCurrent t

/-- O12 (tier 3). A step keeps every record's manual baseline, filtered skew, baseline and deviation within plus and
minus 524,272 sixteenths and its raw deviation within twice that, and the manual baselines of the stored sets and of a
snapshot in flight too. It keeps, while the staged items are ones the form checks admit, every other setting in its
range: those of each record with T1 below T2 below T3, the learned profile, the global settings, the link-fail time at
0, 5, 20 or 100, the forget times, the pacing gaps, and all of these in the stored sets and in a snapshot in flight.
(05_skew_supervision.md R79, R85, R86, R90, R92; 03_the_origin_table.md section 3.2; 08_delivery_to_the_bay.md R133;
09_staging_ownership_and_apply.md R149, R157; 10_control_links_and_reporting.md R162) -/
def Obligations.SkewValuesStayInRange : Prop :=
  ∀ s t : State, step s = .next t → (SkewBounded s → SkewBounded t) ∧ (SettingsInRange s → SettingsInRange t)

/-- O13 (tier 3). A step keeps that every record's hold timer runs exactly while its mode is Auto and its level Excess
or Gross. (05_skew_supervision.md R96, R99, R101) -/
def Obligations.HoldTimersMatchModeAndLevel : Prop :=
  ∀ s t : State, HoldTimersMatch s → step s = .next t → HoldTimersMatch t

/-- O14 (tier 3). A step keeps that a learned record has a forget time, a running forget timer, a learning note and no
reference link, that a configured one has none of the first three, and that stored records have an owner.
(03_the_origin_table.md R35, R36, R37, R45; 11_stored_settings_and_start_up.md R171) -/
def Obligations.RecordKindsStaySound : Prop :=
  ∀ s t : State, KindsSound s → step s = .next t → KindsSound t

/-- O15 (tier 3). A step keeps jointly: no two records and no two delivery table entries, and no two of a stored set
or of a snapshot in flight, with one address; the origin table in canonical form at indices 0..255; the delivery table
at slots 0..63 with non-empty delivery sets; the stored sets and a snapshot in flight likewise; sound windows and
kinds; the silent order naming once each exactly the learned Silent records; every reference link naming another,
configured record without a link of its own; change sets rising below 256; a link between two events idle or with its
answer ready; flags and masks naming kinds only; answers of at most 64 result bytes, and of none when the status is
not OK. That a link between two events is idle or has its answer ready is the model's choice (log 16, DEDUCED: a row
is one whole select period); R14 says idle only after a reset and at the start of a period. (03_the_origin_table.md
R33, R35, R43; 08_delivery_to_the_bay.md R132; 09_staging_ownership_and_apply.md R155;
01_frames_classes_and_the_lane_trailer.md R15; 10_control_links_and_reporting.md R161, R167, R170) -/
def Obligations.TablesAndLinksStaySound : Prop :=
  ∀ s t : State, TablesSound s → step s = .next t → TablesSound t

/-- O16 (tier 2). For either lane, every sequence, every class and every frame body of 60 to 1,514 bytes, recognition
of the lane copy answers tagged, with the source and destination of the body, that sequence, that lane's code, that
class and that body. (01_frames_classes_and_the_lane_trailer.md R3, R4, R6, R9) -/
def Obligations.RecognitionReadsWrittenTrailers : Prop :=
  ∀ (l : Lane) (seq : SeqNo) (cls : TrafficClass) (body : List Byte), 60 ≤ body.length → body.length ≤ 1514 →
    recognise (laneCopy l seq cls body).data =
      .tagged { source := sourceOf body, dest := destOf body, seq := seq, code := l, cls := cls, body := body }

/-- O17 (tier 2). Of a frame of at least 8 bytes, with tr its last eight: without the marker it is untagged; with it,
it is tagged exactly when it has at least 68 bytes, version 2, lane code 01 or 10 and a span field equal to its length
less 8, and otherwise it is a trailer mismatch. A tagged frame's sequence, lane code, class, body and addresses are
read from the bytes the tables name, lane code 01 being A and 10 B, and class 00 bulk, 01 sample, 10 trip and 11 roll-
call. (01_frames_classes_and_the_lane_trailer.md section 1.2, R4, R5, R6) -/
def Obligations.RecognitionFollowsItsFourConditions : Prop :=
  ([Lane.a, .b].map laneCode = [1, 2] ∧
    [TrafficClass.bulk, .sample, .trip, .rollCall].map TrafficClass.code = [0, 1, 2, 3]) ∧
  ∀ data : List Byte, 8 ≤ data.length →
    let n := data.length
    let tr := data.drop (n - 8)
    let four := 68 ≤ n ∧ numAt tr 2 1 % 16 = 2 ∧ (numAt tr 2 1 / 64 = 1 ∨ numAt tr 2 1 / 64 = 2) ∧ numAt tr 3 2 = n - 8
    (slice tr 5 3 ≠ [0xB5#8, 0x2E#8, 0x71#8] → recognise data = .untagged) ∧
    (slice tr 5 3 = [0xB5#8, 0x2E#8, 0x71#8] → ¬ four → recognise data = .mismatch) ∧
    (slice tr 5 3 = [0xB5#8, 0x2E#8, 0x71#8] → four →
      ∃ t, recognise data = .tagged t ∧ t.seq.toNat = numAt tr 0 2 ∧ laneCode t.code = numAt tr 2 1 / 64 ∧
        t.cls.code = numAt tr 2 1 / 16 % 4 ∧ t.body = data.take (n - 8) ∧
        t.dest.toNat = numAt data 0 6 ∧ t.source.toNat = numAt data 6 6)

/-- O18 (tier 2). For every station address, interval of one byte and at most two proxies, the roll-call content is 60
bytes, is well formed, names the roll-call group and the part's own address, holds role 1, the interval and exactly
the proxies, and is 00h after them. A received content is well formed exactly when it passes the five checks, and its
proxies are then as many addresses as its proxy count, at most 8, number k (from 0) at bytes 18 + 6k to 23 + 6k.
(01_frames_classes_and_the_lane_trailer.md R10, R11) -/
def Obligations.OwnRollCallIsWellFormed : Prop :=
  (∀ (own : Addr) (interval : Nat) (proxies : List Addr), interval < 256 → proxies.length ≤ 2 →
    let body := rollCallBody own interval proxies
    body.length = 60 ∧ rollCallWellFormed body = true ∧ proxiesOf body = proxies ∧
    destOf body = 0x0B4750000001#48 ∧ sourceOf body = own ∧ numAt body 15 1 = 1 ∧ numAt body 16 1 = interval ∧
    ∀ k, 18 + 6 * proxies.length ≤ k → k < 60 → body[k]? = some 0#8) ∧
  ∀ body : List Byte,
    (rollCallWellFormed body = true ↔ RollCallPasses body) ∧
    (RollCallPasses body →
      (proxiesOf body).length = numAt body 17 1 ∧ numAt body 17 1 ≤ 8 ∧
      ∀ k, k < numAt body 17 1 → (proxiesOf body)[k]? = some (addrAt body (18 + 6 * k)))

/-- O19 (tier 2). A frame whose FCS does not match or whose length before the FCS is not 60 to 1,522 adds 1 to the
receive error count of a line port that is not Down or of a Link-up bay port, and nothing else changes; a Down or
Link-down port takes in nothing. A tagged frame from the part's own or a bay station address adds 1 to the echo count,
and nothing else changes. (01_frames_classes_and_the_lane_trailer.md R1, R2; 02_sending_on_both_lanes.md R16;
03_the_origin_table.md R38) -/
def Obligations.DamagedFramesAndEchoesAreOnlyCounted : Prop :=
  ∀ (f : RxFrame) (s : State),
    let bad := ¬ (f.fcs = fcs f.data ∧ 60 ≤ f.data.length ∧ f.data.length ≤ 1522)
    (∀ l, let p := s.lines.get l
      (p.state = .down → exec (.lineFrameReceive l f) s = .next s) ∧
      (p.state ≠ .down → bad → exec (.lineFrameReceive l f) s =
        .next (s.setLine l { p with cnt := { p.cnt with rxError := p.cnt.rxError + 1 } })) ∧
      (∀ t, p.state ≠ .down → ¬ bad → recognise f.data = .tagged t →
        (t.source = s.station ∨ s.bays.one.station = some t.source ∨ s.bays.two.station = some t.source) →
        exec (.lineFrameReceive l f) s =
          .next (s.setLine l { p with cnt := { p.cnt with echo := p.cnt.echo + 1 } }))) ∧
    ∀ m, let p := s.bays.get m
      (p.up = false → exec (.bayFrameReceive m f) s = .next s) ∧
      (p.up = true → bad → exec (.bayFrameReceive m f) s =
        .next (s.setBay m { p with cnt := { p.cnt with rxError := p.cnt.rxError + 1 } }))

/-- O20 (tier 2). A tagged frame from an address without a record, with the group bit set, or with learning off, or
with the table full and the silent order empty, leaves the origin table, the silent order and both change sets as they
stand, adds 1 to the overflow count of its line port, and reports to the alert unit exactly when its trailer class is
trip, also when it is for the roll-call group (log 11, DEDUCED). It is handed on: a class other than roll-call is
delivered without its trailer under its trailer class to the bay ports its destination names, or counted malformed
when it is for the roll-call group; a roll-call that fails a check is counted malformed, and one that passes has its
lane code counted toward assurance and teaches no proxy. (03_the_origin_table.md R39, R41;
01_frames_classes_and_the_lane_trailer.md R7, R9, R11, R12, R13; 08_delivery_to_the_bay.md R135-R138, R142, R143;
07_line_ports_and_lane_assurance.md R120) -/
def Obligations.OverflowFrameReachesNoRecord : Prop :=
  ∀ (l : Lane) (f : RxFrame) (t : Tagged) (s : State),
    let p := s.lines.get l
    p.state ≠ .down → frameGood f = true → recognise f.data = .tagged t →
    ¬ (t.source = s.station ∨ s.bays.one.station = some t.source ∨ s.bays.two.station = some t.source) →
    findOrigin s t.source = none →
    (groupBit t.source = true ∨ s.globals.learning = false ∨ (256 ≤ s.origins.length ∧ s.silentOrder = [])) →
    ∃ u, exec (.lineFrameReceive l f) s = .next u ∧ u.origins = s.origins ∧ u.silentOrder = s.silentOrder ∧
      u.links.one.changes = s.links.one.changes ∧ u.links.two.changes = s.links.two.changes ∧
      (u.lines.get l).cnt.overflow = p.cnt.overflow + 1 ∧
      u.alert = (if t.cls = .trip then .alert else s.alert) ∧
      u.alertHold = (if t.cls = .trip then some s.globals.alertHold else s.alertHold) ∧
      HandedOn none l t (s.setLine l { p with cnt := { p.cnt with overflow := p.cnt.overflow + 1 } }) u

/-- O21 (tier 2). In a table in canonical form, a tagged copy that is no echo and whose source holds the record at
index i leaves that record there with the window, miss runs, lane state and counters judgment gives, its port's last
arrival tick and the time of last frame at the tick counter, the silence timer restarted and a learned record's forget
timer restarted. A twin moves its pipeline, two counts and captured settings as the pair does with the raw deviation
of its lead: none without a link, 0 from a lead that is Off or unseeded (or missing, log 23), else the lead's. The
event ends with the record's comparison, and its members' when it is a suppressing lead that fell below Excess. A copy
not accepted changes nothing more. An accepted one is handed on: trip report (log 11, DEDUCED, when it is for the
roll-call group), delivery without the trailer, or for a roll-call its checks, proxies and lane code.
(04_twin_judgment.md R57, R61; 03_the_origin_table.md R39, R46, R51, R52; 05_skew_supervision.md R80, R87, R91;
06_leads_and_origin_notification.md R105, R106, R110; 01_frames_classes_and_the_lane_trailer.md R7, R9, R11, R12, R13;
08_delivery_to_the_bay.md R135-R138, R142; 07_line_ports_and_lane_assurance.md R120) -/
def Obligations.JudgedCopyMovesItsRecord : Prop :=
  ∀ (l : Lane) (f : RxFrame) (t : Tagged) (s : State) (i : Nat) (r : Origin),
    let p := s.lines.get l
    p.state ≠ .down → frameGood f = true → recognise f.data = .tagged t →
    ¬ (t.source = s.station ∨ s.bays.one.station = some t.source ∨ s.bays.two.station = some t.source) →
    tabWf 256 s.origins = true → findOrigin s t.source = some (i, r) →
    let j := judge ⟨s.globals.lossLimit, s.globals.pairTimeout⟩ ⟨l, t.seq, s.tick⟩ ⟨s.lines, r⟩
    let leadRaw : Option Int := match r.cfg.ref with
      | none => none
      | some n => match originAt s n with
        | none => some 0
        | some lead => if lead.cfg.mode = .off ∨ lead.pipe.seeded = false then some 0 else some lead.pipe.raw
    let paired : Origin × Bool := match j.completed with
      | some q => processPair s.globals.band leadRaw q.first q.tick s.tick j.closing.orig
      | none => (j.closing.orig, false)
    let moved : Origin := { paired.1 with
      lane := { paired.1.lane with last := r.lane.last.set l (some s.tick), lastFrame := some s.tick },
      silence := some r.cfg.silence, forget := if r.learned then r.forgetTime else r.forget }
    let v := endEvent paired.2 r.pipe.level i { s with
      lines := j.closing.lines, origins := tabPut s.origins i moved,
      silentOrder := if j.verdict = .seed then s.silentOrder.erase i else s.silentOrder }
    ∃ u r', exec (.lineFrameReceive l f) s = .next u ∧ originAt u i = some r' ∧
      (j.verdict.accepted = false → u = v) ∧ (j.verdict.accepted = true → HandedOn (some i) l t v u) ∧
      moved = { r' with notif := moved.notif } ∧
      r'.addr = r.addr ∧ r'.owners = r.owners ∧ r'.win = j.closing.orig.win ∧
      r'.lane.miss = j.closing.orig.lane.miss ∧ r'.lane.state = j.closing.orig.lane.state ∧
      { r'.cnt with spikes := 0, saturated := 0 } = { j.closing.orig.cnt with spikes := 0, saturated := 0 } ∧
      r'.lane.last.get l = some s.tick ∧ r'.lane.lastFrame = some s.tick ∧
      r'.lane.last.get (otherLane l) = r.lane.last.get (otherLane l) ∧
      r'.silence = some r.cfg.silence ∧ r'.forget = (if r.learned then r.forgetTime else r.forget) ∧
      (j.verdict.accepted = false → u.bays = s.bays ∧ u.alert = s.alert ∧ u.alertHold = s.alertHold)

/-- O22 (tier 2). With learning on, the table not full and in canonical form, a loss limit of at least 1 and an
individual source address without a record, the frame creates a learned record at the lowest free index with the
learned profile's settings, note and forget time, an unseeded pipeline, arrival ticks at the tick counter, its silence
and forget timers running, its window seeded at the copy with one open pair, Paired, accepted 1 and the other counts
0, notified status Steady, none, Paired. The index joins both change sets with ORIGIN CHANGE on both links, and the
creation that fills the table raises TABLE FULL on both. The creating copy is an accepted first copy: from the state
with that record in place and nothing else changed but the index taken out of the silent order, the frame is handed
on, with its trip report (log 11, DEDUCED, when it is for the roll-call group), its delivery without the trailer, or a
roll-call's checks, proxies and lane code. (03_the_origin_table.md R34, R36, R37, R39, R40, R44; 04_twin_judgment.md
R57, R58, R66, R68; 06_leads_and_origin_notification.md R103, R104; 01_frames_classes_and_the_lane_trailer.md R7, R9,
R11, R12, R13; 08_delivery_to_the_bay.md R135-R138, R142; 07_line_ports_and_lane_assurance.md R120) -/
def Obligations.UnknownSourceIsLearned : Prop :=
  ∀ (l : Lane) (f : RxFrame) (t : Tagged) (s : State),
    let p := s.lines.get l
    p.state ≠ .down → frameGood f = true → recognise f.data = .tagged t →
    ¬ (t.source = s.station ∨ s.bays.one.station = some t.source ∨ s.bays.two.station = some t.source) →
    tabWf 256 s.origins = true → findOrigin s t.source = none → groupBit t.source = false →
    s.globals.learning = true → s.origins.length < 256 → 1 ≤ s.globals.lossLimit →
    let g := s.globals.profile
    ∃ u r' i, exec (.lineFrameReceive l f) s = .next u ∧
      tabGet s.origins i = none ∧ (∀ k, k < i → tabGet s.origins k ≠ none) ∧ originAt u i = some r' ∧
      r' = {
        addr := t.source, owners := ⟨false, false⟩, forgetTime := some g.forget, note := some (.frameOn l),
        cfg := { mode := g.mode, manual := 0, k := g.k, j := g.j, m := g.m, t1 := g.t1, t2 := g.t2, t3 := g.t3, c := g.c,
                 spike := g.spike, hi := g.hi, lo := g.lo, hold := g.hold, ref := none, weight := 0, suppress := false,
                 silence := g.silence },
        win := ⟨true, t.seq, 1, [⟨t.seq, l, s.tick, s.tick + BitVec.ofNat 32 (s.globals.pairTimeout * 10000)⟩], 0⟩,
        lane := ⟨⟨0, 0⟩, .paired, PerLane.set ⟨none, none⟩ l (some s.tick), some s.tick⟩,
        pipe := ⟨false, 0, 0, 0, 0, .neither, .steady, .steady, 0, 0, none⟩, notif := ⟨.steady, .neither, .paired⟩,
        cnt := ⟨1, 0, 0, 0, 0, 0, 0, 0, 0, 0, 0, 0⟩, silence := some g.silence, forget := some g.forget } ∧
      i ∈ u.links.one.changes ∧ i ∈ u.links.two.changes ∧
      hasKind u.links.one.flags .originChange = true ∧ hasKind u.links.two.flags .originChange = true ∧
      (s.origins.length = 255 →
        hasKind u.links.one.flags .tableFull = true ∧ hasKind u.links.two.flags .tableFull = true) ∧
      let told := fun c : ControlLink => { c with
        changes := setInsert i c.changes,
        flags := (if s.origins.length = 255 then c.flags ||| EventKind.tableFull.bit else c.flags) |||
          EventKind.originChange.bit }
      HandedOn (some i) l t { s with
        origins := tabPut s.origins i r', silentOrder := s.silentOrder.erase i,
        links := ⟨told s.links.one, told s.links.two⟩ } u

/-- O23 (tier 2). With the table full, canonical and its silent order exact, learning on and an individual source
address without a record, the record at the head of the silent order is replaced in its index by the new learned
record, which has the learned profile's settings, note and timers, and for a loss limit of 1 or more the seeded
window, lane part, unseeded pipeline, counters and notified status of a record just learned. The rest of the silent
order stays, the table stays at its size, the index joins both change sets with ORIGIN CHANGE, and the TABLE FULL
flags stay as they stand. The creating copy is an accepted first copy and is handed on from that state: trip report
(log 11, DEDUCED, when it is for the roll-call group), delivery without the trailer, or a roll-call's checks, proxies
and lane code. (03_the_origin_table.md R36, R37, R39, R40, R42, R43, R44, R50; 04_twin_judgment.md R57, R58, R66, R68;
06_leads_and_origin_notification.md R103, R104; 01_frames_classes_and_the_lane_trailer.md R7, R9, R11, R12, R13;
08_delivery_to_the_bay.md R135-R138, R142; 07_line_ports_and_lane_assurance.md R120) -/
def Obligations.EvictionReusesTheSilentHead : Prop :=
  ∀ (l : Lane) (f : RxFrame) (t : Tagged) (s : State) (head : Nat) (rest : List Nat),
    let p := s.lines.get l
    p.state ≠ .down → frameGood f = true → recognise f.data = .tagged t →
    ¬ (t.source = s.station ∨ s.bays.one.station = some t.source ∨ s.bays.two.station = some t.source) →
    tabWf 256 s.origins = true → SilentOrderExact s → findOrigin s t.source = none → groupBit t.source = false →
    s.globals.learning = true → 256 ≤ s.origins.length → s.silentOrder = head :: rest →
    let g := s.globals.profile
    ∃ u r', exec (.lineFrameReceive l f) s = .next u ∧ originAt u head = some r' ∧
      r'.addr = t.source ∧ r'.owners = ⟨false, false⟩ ∧ r'.note = some (.frameOn l) ∧
      r'.forgetTime = some s.globals.profile.forget ∧ r'.forget = some s.globals.profile.forget ∧
      r'.silence = some s.globals.profile.silence ∧
      (1 ≤ s.globals.lossLimit → r' = {
          addr := t.source, owners := ⟨false, false⟩, forgetTime := some g.forget, note := some (.frameOn l),
          cfg := { mode := g.mode, manual := 0, k := g.k, j := g.j, m := g.m, t1 := g.t1, t2 := g.t2, t3 := g.t3, c := g.c,
                   spike := g.spike, hi := g.hi, lo := g.lo, hold := g.hold, ref := none, weight := 0, suppress := false,
                   silence := g.silence },
          win := ⟨true, t.seq, 1, [⟨t.seq, l, s.tick, s.tick + BitVec.ofNat 32 (s.globals.pairTimeout * 10000)⟩], 0⟩,
          lane := ⟨⟨0, 0⟩, .paired, PerLane.set ⟨none, none⟩ l (some s.tick), some s.tick⟩,
          pipe := ⟨false, 0, 0, 0, 0, .neither, .steady, .steady, 0, 0, none⟩, notif := ⟨.steady, .neither, .paired⟩,
          cnt := ⟨1, 0, 0, 0, 0, 0, 0, 0, 0, 0, 0, 0⟩, silence := some g.silence, forget := some g.forget }) ∧
      u.silentOrder = rest ∧ u.origins.length = s.origins.length ∧
      head ∈ u.links.one.changes ∧ head ∈ u.links.two.changes ∧
      hasKind u.links.one.flags .originChange = true ∧ hasKind u.links.two.flags .originChange = true ∧
      hasKind u.links.one.flags .tableFull = hasKind s.links.one.flags .tableFull ∧
      hasKind u.links.two.flags .tableFull = hasKind s.links.two.flags .tableFull ∧
      let told := fun c : ControlLink =>
        { c with changes := setInsert head c.changes, flags := c.flags ||| EventKind.originChange.bit }
      HandedOn (some head) l t { s with
        origins := tabPut s.origins head r', silentOrder := rest,
        links := ⟨told s.links.one, told s.links.two⟩ } u

/-- O24 (tier 2). With the silence timer of the record at index i running, SILENCE_EXPIRY leaves the record Silent
with its window unseeded and empty but for the highest sequence, the silence timer stopped, settings, pipeline,
arrival ticks, other counters and forget timer as they stand, and Silent as its notified lane state (notified to both
masters when it was another). A learned record goes to the tail of the silent order. Each open pair charges one miss
to the lane other than its first: to the line port when that is Down or Settling, else to the record's misses and its
miss run, up to 255. The event ends with the comparison of this record, in a canonical table, and changes nothing
else. Without a running timer nothing happens (log 1, DEDUCED). (03_the_origin_table.md R43, R47; 04_twin_judgment.md
R72, R73, R74; 06_leads_and_origin_notification.md R105) -/
def Obligations.SilenceExpiryMakesTheRecordSilent : Prop :=
  ∀ (i : Nat) (r : Origin) (s : State), originAt s i = some r →
    (r.silence = none → exec (.silenceExpiry i) s = .next s) ∧
    (r.silence ≠ none →
      let missed := fun x : Lane => (r.win.pairs.filter fun p => decide (p.first ≠ x)).length
      let away := fun x : Lane => (s.lines.get x).state = .down ∨ (s.lines.get x).state = .settling
      let charged := fun x : Lane => BitVec.ofNat 32 (if away x then 0 else missed x)
      ∃ t r', exec (.silenceExpiry i) s = .next t ∧ originAt t i = some r' ∧
        r' = { r with
          win := { r.win with seeded := false, delivered := 0, pairs := [], staleRun := 0 },
          lane := { r.lane with state := .silent, miss := r'.lane.miss },
          cnt := { r.cnt with missA := r.cnt.missA + charged .a, missB := r.cnt.missB + charged .b },
          silence := none, notif := r'.notif } ∧
        (∀ x, let p := s.lines.get x
          let n := r.lane.miss.get x
          t.lines.get x = (if away x then
            { p with cnt := { p.cnt with missUnavail := p.cnt.missUnavail + BitVec.ofNat 32 (missed x) } } else p) ∧
          r'.lane.miss.get x = (if away x then n else max n (min 255 (n + missed x)))) ∧
        r'.notif.lane = .silent ∧
        t.silentOrder = (if r.learned then s.silentOrder.erase i ++ [i] else s.silentOrder) ∧
        (r.notif.lane ≠ .silent → i ∈ t.links.one.changes ∧ i ∈ t.links.two.changes ∧
          hasKind t.links.one.flags .originChange = true ∧ hasKind t.links.two.flags .originChange = true) ∧
        (tabWf 256 s.origins = true →
          Compared (fun k _ => k = i) (fun _ _ => False)
            { s with lines := t.lines, silentOrder := t.silentOrder,
                     origins := tabPut s.origins i { r' with notif := r.notif } } t))

/-- O25 (tier 2). With the forget timer of the record at index i running, FORGET_EXPIRY erases the index from the
table and from the silent order, and adds it to both change sets with ORIGIN CHANGE on both links. Nothing else
changes, the index is then free in a canonical table, and every other index reads as before. Without a running timer
nothing happens (log 1, DEDUCED). (03_the_origin_table.md R49, R50) -/
def Obligations.ForgetExpiryRemovesTheRecord : Prop :=
  ∀ (i : Nat) (r : Origin) (s : State), originAt s i = some r →
    let told := fun c : ControlLink =>
      { c with changes := setInsert i c.changes, flags := c.flags ||| EventKind.originChange.bit }
    (r.forget = none → exec (.forgetExpiry i) s = .next s) ∧
    (r.forget ≠ none →
      exec (.forgetExpiry i) s =
        .next { s with origins := tabErase s.origins i, silentOrder := s.silentOrder.erase i,
                       links := ⟨told s.links.one, told s.links.two⟩ } ∧
      (tabWf 256 s.origins = true → tabGet (tabErase s.origins i) i = none) ∧
      ∀ k, k ≠ i → tabGet (tabErase s.origins i) k = tabGet s.origins k)

/-- O26 (tier 2). The open pair due first is the one whose expiry lies nearest after any tick from which all expiries
lie less than 2^31 ahead, and of equal expiries the one that arrived first (log 9, DEDUCED). With p that pair of the
record at index i and X the lane other than its first, PAIR_EXPIRY removes the pairs of its sequence from the list and
keeps the rest of the window, the arrival ticks, the timers, the settings and the pipeline. With line port X Down or
Settling the port's miss-while-unavailable count rises by 1 and the miss runs, lane state and counters stay; otherwise
miss run X rises by 1 up to 255, the misses X count by 1, the lane state follows the runs unless Silent, and the ports
stay as they are. The event ends with the comparison of this record, in a canonical table, and changes nothing else.
(04_twin_judgment.md R69, R72, R73, R74, R75; 06_leads_and_origin_notification.md R104, R105) -/
def Obligations.PairExpiryChargesTheMissingLane : Prop :=
  (∀ (ps : List OpenPair) (base : Tick), ps ≠ [] → (∀ q ∈ ps, (q.expiry - base).toNat < 2147483648) →
    ∃ before p after, ps = before ++ p :: after ∧ firstDue ps = some p ∧
      (∀ q ∈ before, (p.expiry - base).toNat < (q.expiry - base).toNat) ∧
      ∀ q ∈ after, (p.expiry - base).toNat ≤ (q.expiry - base).toNat) ∧
  ∀ (i : Nat) (r : Origin) (p : OpenPair) (s : State), originAt s i = some r → firstDue r.win.pairs = some p →
    let x := otherLane p.first
    let port := s.lines.get x
    let away := port.state = .down ∨ port.state = .settling
    ∃ t r', exec (.pairExpiry i) s = .next t ∧ originAt t i = some r' ∧
      r'.win = { r.win with pairs := r.win.pairs.filter fun q => decide (q.seq ≠ p.seq) } ∧
      r'.lane.last = r.lane.last ∧ r'.lane.lastFrame = r.lane.lastFrame ∧ r'.silence = r.silence ∧
      r'.forget = r.forget ∧ r'.cfg = r.cfg ∧ r'.pipe = r.pipe ∧ t.silentOrder = s.silentOrder ∧
      r' = { r with win := r'.win, lane := r'.lane, cnt := r'.cnt, notif := r'.notif } ∧
      (tabWf 256 s.origins = true →
        Compared (fun k _ => k = i) (fun _ _ => False)
          { s with lines := t.lines, origins := tabPut s.origins i { r' with notif := r.notif } } t) ∧
      (away → r'.lane = r.lane ∧ r'.cnt = r.cnt ∧
        t.lines = s.lines.set x { port with cnt := { port.cnt with missUnavail := port.cnt.missUnavail + 1 } }) ∧
      (¬ away → t.lines = s.lines ∧
        r'.lane.miss = r.lane.miss.set x (if r.lane.miss.get x < 255 then r.lane.miss.get x + 1 else r.lane.miss.get x) ∧
        r'.cnt = (match x with
          | .a => { r.cnt with missA := r.cnt.missA + 1 }
          | .b => { r.cnt with missB := r.cnt.missB + 1 }) ∧
        r'.lane.state = (if r.lane.state = .silent then .silent else laneStateOf s.globals.lossLimit r'.lane.miss))

/-- O27 (tier 2). With the hold timer of the record at index i running with an expiry, HOLD_EXPIRY makes the baseline
the filtered skew, raw deviation and deviation 0, direction none, level and candidate level Steady, candidate count 0
and stops the timer; the filtered skew, the decimation count, and the rest of the record but its notified status stay.
The index joins both change sets and ORIGIN CHANGE is raised on both links. In a canonical table the record compares
and notifies with that cause, each member compares when it is a suppressing lead that was at Excess or Gross, and
nothing else changes. A timer that is not running (log 1, DEDUCED), or never expires, changes nothing.
(05_skew_supervision.md R96, R97; 06_leads_and_origin_notification.md R104, R105, R106, R110) -/
def Obligations.HoldExpiryRebasesAndNotifies : Prop :=
  ∀ (i : Nat) (r : Origin) (s : State), originAt s i = some r →
    (r.pipe.hold = none ∨ r.pipe.hold = some 255 → exec (.holdExpiry i) s = .next s) ∧
    (∀ h, r.pipe.hold = some h → h ≠ 255 →
      ∃ t r', exec (.holdExpiry i) s = .next t ∧ originAt t i = some r' ∧
        r'.pipe = { r.pipe with baseline := r.pipe.filtered, raw := 0, dev := 0, dir := .neither, level := .steady,
                                cand := .steady, candCount := 0, hold := none } ∧
        r' = { r with pipe := r'.pipe, notif := r'.notif } ∧ i ∈ t.links.one.changes ∧ i ∈ t.links.two.changes ∧
        hasKind t.links.one.flags .originChange = true ∧ hasKind t.links.two.flags .originChange = true ∧
        (tabWf 256 s.origins = true →
          let fell := r.cfg.suppress = true ∧ (r.pipe.level = .excess ∨ r.pipe.level = .gross)
          Compared (fun k q => k = i ∨ (fell ∧ q.cfg.ref = some i)) (fun k _ => k = i)
            { s with origins := tabPut s.origins i { r' with notif := r.notif } } t))

/-- O28 (tier 2). A proxy held by a learned record restarts its forget timer and changes nothing else; one held by a
configured record, and one without a record that is the part's own or a bay station address or has the group bit set,
changes nothing; any other with learning off or the table full adds 1 to proxy skipped; otherwise a learned record
with the learned profile's settings and forget time, its forget timer alone running, an unseeded window and pipeline
and counters 0 is created Silent at the lowest free index with the announcer's index in its note; it joins the tail of
the silent order and both change sets with ORIGIN CHANGE on both links, a table it fills raises TABLE FULL, and every
other record and field stays. Its highest sequence 0 is log 8 (DESIGN CHOICE). That a record decides before an own
address does is log 12 (DEDUCED). (03_the_origin_table.md R34, R36, R37, R43, R44, R51, R52) -/
def Obligations.ProxiesAreTakenByTheirRows : Prop :=
  ∀ (n : Nat) (l : Lane) (a : Addr) (s : State),
    let own := a = s.station ∨ s.bays.one.station = some a ∨ s.bays.two.station = some a
    let full := 256 ≤ s.origins.length
    let p := s.lines.get l
    (∀ i r, findOrigin s a = some (i, r) → r.owners = ⟨false, false⟩ →
      takeProxy n l a s = { s with origins := tabPut s.origins i { r with forget := r.forgetTime } }) ∧
    (∀ i r, findOrigin s a = some (i, r) → r.owners ≠ ⟨false, false⟩ → takeProxy n l a s = s) ∧
    (findOrigin s a = none → own ∨ groupBit a = true → takeProxy n l a s = s) ∧
    (findOrigin s a = none → ¬ own → groupBit a = false → s.globals.learning = false ∨ full →
      takeProxy n l a s = s.setLine l { p with cnt := { p.cnt with proxySkipped := p.cnt.proxySkipped + 1 } }) ∧
    (findOrigin s a = none → ¬ own → groupBit a = false → s.globals.learning = true → ¬ full →
      tabWf 256 s.origins = true →
      let g := s.globals.profile
      let r : Origin := {
        addr := a, owners := ⟨false, false⟩, forgetTime := some g.forget, note := some (.rollCallOf n),
        cfg := { mode := g.mode, manual := 0, k := g.k, j := g.j, m := g.m, t1 := g.t1, t2 := g.t2, t3 := g.t3, c := g.c,
                 spike := g.spike, hi := g.hi, lo := g.lo, hold := g.hold, ref := none, weight := 0, suppress := false,
                 silence := g.silence },
        win := ⟨false, 0, 0, [], 0⟩,
        lane := ⟨⟨0, 0⟩, .silent, ⟨none, none⟩, none⟩,
        pipe := ⟨false, 0, 0, 0, 0, .neither, .steady, .steady, 0, 0, none⟩, notif := ⟨.steady, .neither, .silent⟩,
        cnt := ⟨0, 0, 0, 0, 0, 0, 0, 0, 0, 0, 0, 0⟩, silence := none, forget := some g.forget }
      ∃ i, tabGet s.origins i = none ∧ (∀ k, k < i → tabGet s.origins k ≠ none) ∧
        let told := fun c : ControlLink => { c with
          changes := setInsert i c.changes,
          flags := (if s.origins.length = 255 then c.flags ||| EventKind.tableFull.bit else c.flags) |||
            EventKind.originChange.bit }
        takeProxy n l a s = { s with
          origins := tabPut s.origins i r, silentOrder := s.silentOrder ++ [i],
          links := ⟨told s.links.one, told s.links.two⟩ } ∧
        originAt (takeProxy n l a s) i = some r ∧
        ∀ k, k ≠ i → originAt (takeProxy n l a s) k = originAt s k)

/-- O29 (tier 2). With the distance the copy's sequence less the highest modulo 65,536: 1 to 32,767 is newer by that
distance; 0 is inside at offset 0; a distance from 32,768 with b = 65,536 less it at most 63 is inside at offset b,
and then the sequence is the highest less b; with b above 63 it is stale. A jump back of more than 32,768 is newer;
one of less than 32,769 and more than 63 is stale. (R56) -/
def Obligations.PlacementFollowsSequenceDistance : Prop :=
  ∀ highest seq : SeqNo,
    let d := (seq.toNat + 65536 - highest.toNat) % 65536
    let back := (highest.toNat + 65536 - seq.toNat) % 65536
    (1 ≤ d → d ≤ 32767 → place highest seq = .newer d) ∧
    (d = 0 → place highest seq = .inside 0) ∧
    (32768 ≤ d → 65536 - d ≤ 63 → place highest seq = .inside (65536 - d)) ∧
    (32768 ≤ d → 63 < 65536 - d → place highest seq = .stale) ∧
    (∀ b, place highest seq = .inside b → b ≤ 63 ∧ seq = highest - BitVec.ofNat 16 b) ∧
    (32768 < back → place highest seq = .newer d) ∧
    (back < 32769 → 63 < back → place highest seq = .stale)

/-- O30 (tier 2). The verdict is seed for an unseeded window; newer for a distance of 1 to 32,767; inside the window
out-of-order when the sequence is not delivered, else late duplicate, same-lane repeat or twin by its open pair; stale
discard while the stale run is below 2, else resync. The accepted count rises by 1 exactly at seed, newer, out-of-
order and resync. An acceptance leaves the window seeded, its stale run 0 and the copy's own pair at the tail with the
expiry of R68. The highest sequence is the copy's but at out-of-order. Seed and resync deliver it alone and keep no
older pair; newer by d shifts the delivered set by d, the skipped sequences not delivered; out-of-order adds the
sequence. A newer copy closes the pairs more than 63 behind, and a list still holding 8 its oldest. Each closed pair
charges one miss to the lane other than its first: to the port when that is Down or Settling, else to the record's
misses and its run, up to 255. The run of the copy's port ends 0, both at seed; resync counts the pairs abandoned. The
lane state follows the runs unless Silent stays. The rest of record and ports stands. A twin removes the pair, clears
the stale run and its port's miss run, which the lane state follows, counts once and changes nothing else; a stale
discard changes the stale run and its count alone. (04_twin_judgment.md R56-R66, R68, R70-R75; 03_the_origin_table.md
R48) -/
def Obligations.VerdictsFollowTheTable : Prop :=
  ∀ (g : JudgeSettings) (k : Copy) (c : Closing),
    let w := c.orig.win
    let d := seqDistance w.highest k.seq
    let b := if d = 0 then 0 else 65536 - d
    let j := judge g k c
    let r := j.closing.orig
    j.verdict =
      (if w.seeded = false then .seed
       else if 1 ≤ d ∧ d ≤ 32767 then .newer
       else if b ≤ 63 then
         if w.delivered.getLsbD b = false then .outOfOrder
         else
           match w.pairs.find? fun p => decide (p.seq = k.seq) with
           | none => .lateDuplicate
           | some p => if p.first = k.port then .sameLaneRepeat else .twin
       else if w.staleRun < 2 then .staleDiscard else .resync) ∧
    r.cnt.accepted = c.orig.cnt.accepted +
      (if j.verdict = .seed ∨ j.verdict = .newer ∨ j.verdict = .outOfOrder ∨ j.verdict = .resync then 1 else 0) ∧
    (j.verdict.accepted = true →
      let own : OpenPair := ⟨k.seq, k.port, k.tick, k.tick + BitVec.ofNat 32 (g.timeout * 10000)⟩
      let behind := fun p : OpenPair => decide (63 < (k.seq.toNat + 65536 - p.seq.toNat) % 65536)
      let out := if j.verdict = .newer then w.pairs.filter behind else []
      let left := if j.verdict = .newer then w.pairs.filter fun p => !behind p
        else if j.verdict = .outOfOrder then w.pairs else []
      let full := 8 ≤ left.length
      let closed := if full then out ++ left.take 1 else out
      let missed := fun x : Lane => (closed.filter fun p => decide (p.first ≠ x)).length
      let away := fun x : Lane => (c.lines.get x).state = .down ∨ (c.lines.get x).state = .settling
      let charged := fun x : Lane => BitVec.ofNat 32 (if away x then 0 else missed x)
      r.win = { seeded := true, highest := if j.verdict = .outOfOrder then w.highest else k.seq,
                delivered := r.win.delivered, pairs := (if full then left.drop 1 else left) ++ [own], staleRun := 0 } ∧
      (j.verdict = .seed ∨ j.verdict = .resync → r.win.delivered = 1) ∧
      (j.verdict = .newer → ∀ o, o < 64 →
        r.win.delivered.getLsbD o = (decide (o = 0) || (decide (d ≤ o) && w.delivered.getLsbD (o - d)))) ∧
      (j.verdict = .outOfOrder → ∀ o, o < 64 →
        r.win.delivered.getLsbD o = (decide (o = b) || w.delivered.getLsbD o)) ∧
      (∀ x, let p := c.lines.get x
        let n := c.orig.lane.miss.get x
        j.closing.lines.get x = (if away x then
          { p with cnt := { p.cnt with missUnavail := p.cnt.missUnavail + BitVec.ofNat 32 (missed x) } } else p) ∧
        r.lane.miss.get x = (if x = k.port ∨ j.verdict = .seed then 0 else if away x then n
          else max n (min 255 (n + missed x)))) ∧
      r.lane.state = (if j.verdict ≠ .seed ∧ c.orig.lane.state = .silent then .silent
        else laneStateOf g.limit r.lane.miss) ∧
      r.cnt = { c.orig.cnt with
        accepted := c.orig.cnt.accepted + 1, missA := c.orig.cnt.missA + charged .a,
        missB := c.orig.cnt.missB + charged .b,
        abandoned := c.orig.cnt.abandoned + (if j.verdict = .resync then BitVec.ofNat 32 w.pairs.length else 0),
        resyncs := c.orig.cnt.resyncs + (if j.verdict = .resync then 1 else 0) } ∧
      r = { c.orig with win := r.win, cnt := r.cnt,
                        lane := { c.orig.lane with miss := r.lane.miss, state := r.lane.state } }) ∧
    (j.verdict = .twin →
      let miss := c.orig.lane.miss.set k.port 0
      j.closing = { c with orig := { c.orig with
        win := { w with pairs := w.pairs.filter (fun q => decide (q.seq ≠ k.seq)), staleRun := 0 },
        lane := { c.orig.lane with
          miss := miss,
          state := if c.orig.lane.state = .silent then .silent else laneStateOf g.limit miss },
        cnt := { c.orig.cnt with twins := c.orig.cnt.twins + 1 } } } ∧
      j.completed = w.pairs.find? (fun p => decide (p.seq = k.seq))) ∧
    (j.verdict = .staleDiscard →
      j.closing = { c with orig := { c.orig with
        win := { w with staleRun := w.staleRun + 1 }, cnt := { c.orig.cnt with stale := c.orig.cnt.stale + 1 } } }) ∧
    (j.verdict ≠ .twin → j.completed = none)

/-- O31 (tier 2). A copy at a delivered sequence inside the window whose open pair has this port as its first lane
raises the same-lane repeats count by 1; one without an open pair raises the late duplicates count of its port by 1.
Both are no acceptance and complete no pair; the stale run becomes 0, and the pairs with their ticks and expiries, the
miss runs, the rest of the record and the ports stay as they stand. (R62; R63) -/
def Obligations.RepeatsAndLateDuplicatesAreDiscarded : Prop :=
  ∀ (g : JudgeSettings) (k : Copy) (c : Closing) (b : Nat),
    let w := c.orig.win
    w.seeded = true → place w.highest k.seq = .inside b → w.delivered.getLsbD b = true →
    (∀ p, w.pairs.find? (fun p => decide (p.seq = k.seq)) = some p → p.first = k.port →
      judge g k c = ⟨.sameLaneRepeat, { c with orig := { c.orig with
        win := { w with staleRun := 0 }, cnt := { c.orig.cnt with repeats := c.orig.cnt.repeats + 1 } } }, none⟩) ∧
    (w.pairs.find? (fun p => decide (p.seq = k.seq)) = none →
      judge g k c = ⟨.lateDuplicate, { c with orig := { c.orig with
        win := { w with staleRun := 0 },
        cnt := (match k.port with
          | .a => { c.orig.cnt with lateA := c.orig.cnt.lateA + 1 }
          | .b => { c.orig.cnt with lateB := c.orig.cnt.lateB + 1 }) } }, none⟩) ∧
    Verdict.accepted .sameLaneRepeat = false ∧ Verdict.accepted .lateDuplicate = false

/-- O32 (tier 2). Take an acceptance, then any run of copies judged against the record with no verdict seed or resync,
with events between them that leave the window's seeding, highest sequence and delivered set alone. If a later copy of
the accepted sequence is accepted again, other than by seed or resync, then the offset of the sequence at its first
acceptance plus the sum of the advances of the run is above 63. (04_twin_judgment.md R76, R57-R60) -/
def Obligations.AcceptedOnlyOnceBetweenSeedings : Prop :=
  ∀ (g : JudgeSettings) (k k' : Copy) (c e : Closing) (run : List (Closing × Copy)),
    (judge g k c).verdict.accepted = true → WindowRun g (judge g k c).closing run e → k'.seq = k.seq →
    (judge g k' e).verdict ≠ .seed → (judge g k' e).verdict ≠ .resync → (judge g k' e).verdict.accepted = true →
    63 < offsetBehind (judge g k c).closing.orig.win.highest k.seq + runAdvance g run

/-- O33 (tier 2). For a record with a sound window, the accepted count less twins discarded, misses A and B, the two
ports' miss-while-unavailable counts, pairs abandoned and open pairs held, modulo 2^32, is the same before and after
the judgment of any copy, the expiry of any open pair and the record's falling Silent. (03_the_origin_table.md R53;
04_twin_judgment.md R65, R66, R70-R74) -/
def Obligations.EveryPairIsAccountedFor : Prop :=
  ∀ (g : JudgeSettings) (c : Closing), c.orig.win.sound →
    (∀ k, (judge g k c).closing.owed = c.owed) ∧
    (∀ p, p ∈ c.orig.win.pairs → (c.expirePair g.limit p).owed = c.owed) ∧
    (c.fallSilent g.limit).owed = c.owed

/-- O34 (tier 2). The sample is the elapsed ticks modulo 2^32, positive for a first copy on A and negative on B.
Beyond 32,767 in magnitude it saturates; the working value is 16 times the sample so limited. The spike clamp limits
it to 16 L around the filtered skew on each enabled side and says whether it did. A filter or baseline step moves by
the difference divided by a power of two rounded toward minus infinity, stays between its two ends, reaches a value
below it and stops short of one above by less than the divisor. (05_skew_supervision.md R81, R82, R84, R85, R86) -/
def Obligations.SampleClampFilterAndBaselineSteps : Prop :=
  (∀ t1 t2 : Tick, skewSample .a t1 t2 = ((t2.toNat + 4294967296 - t1.toNat) % 4294967296 : Nat) ∧
    skewSample .b t1 t2 = -(((t2.toNat + 4294967296 - t1.toNat) % 4294967296 : Nat) : Int)) ∧
  (∀ s : Int, (saturates s = true ↔ 32767 < s.natAbs) ∧ (s.natAbs ≤ 32767 → workingValue s = 16 * s) ∧
    (32767 < s → workingValue s = 524272) ∧ (s < -32767 → workingValue s = -524272)) ∧
  (∀ (cfg : OriginSettings) (f v : Int),
    (cfg.hi = true → f + 16 * cfg.spike < v → spikeClamp cfg f v = (f + 16 * cfg.spike, true)) ∧
    (cfg.lo = true → v < f - 16 * cfg.spike → spikeClamp cfg f v = (f - 16 * cfg.spike, true)) ∧
    (cfg.hi = false ∨ v ≤ f + 16 * cfg.spike → cfg.lo = false ∨ f - 16 * cfg.spike ≤ v → spikeClamp cfg f v = (v, false))) ∧
  ∀ (n : Nat) (f v : Int), ∀ x, x = filterStep n f v ∨ x = baselineStep n f v →
    (2 ^ n : Nat) * (x - f) ≤ v - f ∧ v - f < (2 ^ n : Nat) * (x - f + 1) ∧
    (f ≤ v → f ≤ x ∧ x ≤ v) ∧ (v ≤ f → v ≤ x ∧ x ≤ f) ∧ (v < f → x < f) ∧
    (0 ≤ v - f → v - f < (2 ^ n : Nat) → x = f) ∧ (n = 0 → x = v)

/-- O35 (tier 2). A pair leaves the pipeline seeded and the window and lane parts alone, and raises saturated samples
exactly when it saturates. It seeds an unseeded pipeline at the working value, with the baseline in Auto and Capture
only; in a seeded one it filters the clamped value and counts a clamp. Off shows 0, none, Steady and keeps its
baseline; Capture ends in Manual with the baseline and manual baseline at the filtered skew and raw deviation 0;
Manual keeps its baseline; Auto steps its baseline when the decimation falls due and the level before the pair is
below Excess. Outside Off the raw deviation is filtered less baseline, the deviation that less the lead's weighted
part limited to 524,272, the direction its sign. The candidate is candidateOf's, from the level before the pair
(Steady at a seeding pair); the held candidate, count and level move by the debounce count (from Steady and 0 at a
seeding pair); and the hold timer stops below Excess, starts in Auto at a rise into Excess or Gross, and else stands.
(05_skew_supervision.md R80, R82-R96) -/
def Obligations.PairMovesThePipelineByMode : Prop :=
  ∀ (band : HysteresisBand) (lead : Option Int) (first : Lane) (t1 t2 : Tick) (r : Origin),
    let out := processPair band lead first t1 t2 r
    let q := out.1.pipe
    let p := r.pipe
    let s := skewSample first t1 t2
    let cl := spikeClamp r.cfg p.filtered (workingValue s)
    out.1.win = r.win ∧ out.1.lane = r.lane ∧ q.seeded = true ∧ (out.2 = true ↔ r.cfg.mode = .capture) ∧
    out.1.cnt.saturated = r.cnt.saturated + (if 32767 < s.natAbs then 1 else 0) ∧
    out.1.cnt.spikes = r.cnt.spikes + (if p.seeded = true ∧ cl.2 = true then 1 else 0) ∧
    q.filtered = (if p.seeded then filterStep r.cfg.k p.filtered (max (-524272) (min 524272 cl.1)) else workingValue s) ∧
    (r.cfg.mode = .off → q.raw = 0 ∧ q.dev = 0 ∧ q.dir = .neither ∧ q.level = .steady ∧ q.cand = .steady ∧
      q.candCount = 0 ∧ q.hold = none ∧ q.baseline = p.baseline) ∧
    (r.cfg.mode = .manual → q.baseline = p.baseline) ∧
    (r.cfg.mode = .capture → q.baseline = q.filtered ∧ q.raw = 0 ∧
      out.1.cfg = { r.cfg with mode := .manual, manual := q.filtered }) ∧
    (r.cfg.mode ≠ .capture → out.1.cfg = r.cfg) ∧
    (p.seeded = false → q.decim = 0 ∧ (r.cfg.mode = .auto → q.baseline = workingValue s)) ∧
    (p.seeded = true → r.cfg.mode ≠ .auto → q.decim = p.decim) ∧
    (p.seeded = true → r.cfg.mode = .auto →
      (p.decim + 1 < r.cfg.m → q.decim = p.decim + 1 ∧ q.baseline = p.baseline) ∧
      (r.cfg.m ≤ p.decim + 1 → q.decim = 0 ∧
        q.baseline = (if p.level = .excess ∨ p.level = .gross then p.baseline
                      else baselineStep r.cfg.j p.baseline q.filtered))) ∧
    (r.cfg.mode ≠ .off → q.raw = q.filtered - q.baseline ∧
      q.dev = max (-524272) (min 524272 (q.raw - (match lead with
        | some x => x * r.cfg.weight / 64
        | none => 0))) ∧
      q.dir = (if 0 < q.dev then .bLate else if q.dev < 0 then .aLate else .neither) ∧
      let before := if p.seeded then p.level else .steady
      let held := if p.seeded then p.cand else .steady
      let count := if p.seeded then p.candCount else 0
      let x := candidateOf band r.cfg before q.dev
      let n := if x = held then (if count < r.cfg.c then count + 1 else count) else 1
      q.cand = x ∧
      (r.cfg.c ≤ n ∧ x ≠ before → q.level = x ∧ q.candCount = 0) ∧
      (¬ (r.cfg.c ≤ n ∧ x ≠ before) → q.level = before ∧ q.candCount = n) ∧
      q.hold = (if q.level = .steady ∨ q.level = .drift then none
                else if r.cfg.mode = .auto ∧ (before = .steady ∨ before = .drift) then some r.cfg.hold
                else p.hold))

/-- O36 (tier 2). Steady always qualifies; another level qualifies from 16 T on above the current level and from 16 T
less the band on at or below it, the band being 2 T or T. The candidate is the highest level that qualifies. A
candidate equal to the held one raises the count up to C, another becomes the held one with count 1; with the count at
C or above and the candidate other than the level, the level becomes the candidate and the count 0. With C of 2 or
more, pairs that alternate between two candidates never change the level. The hold timer starts in Auto when the level
rises into Excess or Gross, is left running there, and stops below. (05_skew_supervision.md R93, R94, R96) -/
def Obligations.LevelsFollowCandidateAndDebounce : Prop :=
  (∀ (band : HysteresisBand) (cfg : OriginSettings) (cur : Level) (dev : Int),
    let width := fun t : Nat => match band with
      | .eighth => 2 * t
      | .sixteenth => t
    let qual := fun l : Level => match l with
      | .steady => True
      | .drift => if cur.rank < 1 then 16 * cfg.t1 ≤ dev.natAbs else 16 * cfg.t1 ≤ dev.natAbs + width cfg.t1
      | .excess => if cur.rank < 2 then 16 * cfg.t2 ≤ dev.natAbs else 16 * cfg.t2 ≤ dev.natAbs + width cfg.t2
      | .gross => if cur.rank < 3 then 16 * cfg.t3 ≤ dev.natAbs else 16 * cfg.t3 ≤ dev.natAbs + width cfg.t3
    qual (candidateOf band cfg cur dev) ∧ ∀ l, qual l → l.rank ≤ (candidateOf band cfg cur dev).rank) ∧
  (∀ (c : Nat) (x : Level) (p : Pipeline),
    let n := if x = p.cand then (if p.candCount < c then p.candCount + 1 else p.candCount) else 1
    debounce c x p = (if c ≤ n ∧ x ≠ p.level then { p with cand := x, level := x, candCount := 0 }
                      else { p with cand := x, candCount := n })) ∧
  (∀ (c : Nat) (x y : Level) (p : Pipeline) (n : Nat), 2 ≤ c → x ≠ y → p.cand ≠ x →
    ((List.replicate n [x, y]).flatten.foldl (fun q z => debounce c z q) p).level = p.level) ∧
  ∀ (cfg : OriginSettings) (before : Level) (p : Pipeline),
    holdStage cfg before p =
      (if p.level = .steady ∨ p.level = .drift then { p with hold := none }
       else if cfg.mode = .auto ∧ (before = .steady ∨ before = .drift) then { p with hold := some cfg.hold }
       else p)

/-- O37 (tier 2). The comparison of the record at index i finds the one notification part in which level and direction
keep their last notified values exactly while the lead is a suppressing one at Excess or Gross, and the lane state
exactly while it is Lone-A, Lone-B or Fragmented, a port is Down or Settling and the state that R75 gives with the
unavailable lanes' runs as 0 is the last notified one. Without a cause, and with that part as last notified, nothing
changes. With a cause, or with another part (a field held beside one taken; a change into Silent, into Paired or on a
lane still up while a port is away), the record takes it, the index joins both change sets, ORIGIN CHANGE is raised on
both links, and nothing else changes. At the end of an event of a record in a canonical table it compares so, and in
index order each member compares so when it is a suppressing lead whose level fell from Excess or Gross below. A
commit compares every record so. (06_leads_and_origin_notification.md R104, R105, R106, R107, R109, R110, R112) -/
def Obligations.HeldDifferencesDoNotNotify : Prop :=
  ∀ (i : Nat) (r : Origin) (s : State), originAt s i = some r →
    let a := s.lines.a.state = .down ∨ s.lines.a.state = .settling
    let b := s.lines.b.state = .down ∨ s.lines.b.state = .settling
    let told := fun c : ControlLink =>
      { c with changes := setInsert i c.changes, flags := c.flags ||| EventKind.originChange.bit }
    let takes := fun n : Notified =>
      { s with origins := tabPut s.origins i { r with notif := n }, links := ⟨told s.links.one, told s.links.two⟩ }
    (∃ n, Unheld s r n ∧ (n = r.notif → compareAt false i s = s) ∧
      (n ≠ r.notif → compareAt false i s = takes n) ∧ compareAt true i s = takes n) ∧
    (LeadHolds s r → r.lane.state = r.notif.lane → compareAt false i s = s) ∧
    (a ∨ b → (r.lane.state = .loneA ∨ r.lane.state = .loneB ∨ r.lane.state = .fragmented) →
      r.pipe.level = r.notif.level → r.pipe.dir = r.notif.dir →
      laneStateOf s.globals.lossLimit ⟨if a then 0 else r.lane.miss.a, if b then 0 else r.lane.miss.b⟩ = r.notif.lane →
      compareAt false i s = s) ∧
    (¬ LeadHolds s r → ¬ a → ¬ b → r.notif ≠ ⟨r.pipe.level, r.pipe.dir, r.lane.state⟩ →
      compareAt false i s = takes ⟨r.pipe.level, r.pipe.dir, r.lane.state⟩) ∧
    (LeadHolds s r → PortsHold s r → compareAt true i s = takes r.notif) ∧
    (LeadHolds s r → r.lane.state = .silent ∨ r.lane.state = .paired → r.notif.lane ≠ r.lane.state →
      compareAt false i s = takes ⟨r.notif.level, r.notif.dir, r.lane.state⟩) ∧
    (¬ LeadHolds s r → PortsHold s r → r.notif.level ≠ r.pipe.level ∨ r.notif.dir ≠ r.pipe.dir →
      compareAt false i s = takes ⟨r.pipe.level, r.pipe.dir, r.notif.lane⟩) ∧
    (tabWf 256 s.origins = true → ∀ (cause : Bool) (before : Level),
      let fell := r.cfg.suppress = true ∧ (before = .excess ∨ before = .gross) ∧
        (r.pipe.level = .steady ∨ r.pipe.level = .drift)
      Compared (fun k q => k = i ∨ (fell ∧ q.cfg.ref = some i)) (fun k _ => cause = true ∧ k = i) s
        (endEvent cause before i s)) ∧
    (tabWf 256 s.origins = true → Compared (fun _ _ => True) (fun _ _ => False) s (compareAll s))

/-- O38 (tier 2). A line port with link that loses it starts its link-fail timer with the setting, and a frame on the
wire ends there and counts as transmitted; with a setting of 0 it becomes Down in the same event. Link returning stops
the timer and counts a glitch. The expiry flushes and counts both queues, stops settle and probe-limit timers, empties
the run, clears Unconfirmed, keeps the lane-up seconds and raises LINK LOST and LANE PORT on both links. Without a
running timer neither happens, and a loss at a port without link changes nothing (log 1, DEDUCED). That the frame on
the wire is counted in the event of the loss is log 20 (DEDUCED). Nothing else changes.
(07_line_ports_and_lane_assurance.md R116, R117, R128, R130) -/
def Obligations.LineLinkLossGlitchAndFailure : Prop :=
  ∀ (l : Lane) (s : State),
    let p := s.lines.get l
    let ended : LinePort := match p.sending with
      | none => p
      | some ⟨.protection, _⟩ => { p with sending := none, cnt := { p.cnt with txProt := p.cnt.txProt + 1 } }
      | some ⟨.background, _⟩ => { p with sending := none, cnt := { p.cnt with txBack := p.cnt.txBack + 1 } }
    let fallen := fun q : LinePort =>
      { q with state := .down, unconfirmed := false, run := ⟨none, 0⟩, linkFail := none, settle := none, probe := none,
               prot := [], back := [],
               cnt := { q.cnt with flush := q.cnt.flush + BitVec.ofNat 32 (q.prot.length + q.back.length) } }
    let told := fun c : ControlLink =>
      { c with flags := c.flags ||| EventKind.linkLost.bit ||| EventKind.lanePort.bit }
    let down := fun q : LinePort =>
      { s with lines := s.lines.set l (fallen q), links := ⟨told s.links.one, told s.links.two⟩ }
    (p.state ≠ .down → p.linkFail = none → s.globals.linkFailTime ≠ 0 →
      exec (.lineLinkLoss l) s = .next (s.setLine l { ended with linkFail := some s.globals.linkFailTime })) ∧
    (p.state ≠ .down → p.linkFail = none → s.globals.linkFailTime = 0 →
      exec (.lineLinkLoss l) s = .next (down ended)) ∧
    (p.state = .down ∨ p.linkFail ≠ none → exec (.lineLinkLoss l) s = .next s) ∧
    (p.linkFail ≠ none → exec (.glitch l) s =
      .next (s.setLine l { p with linkFail := none, cnt := { p.cnt with glitch := p.cnt.glitch + 1 } })) ∧
    (p.linkFail ≠ none → exec (.linkFailExpiry l) s = .next (down p)) ∧
    (p.linkFail = none → exec (.glitch l) s = .next s ∧ exec (.linkFailExpiry l) s = .next s)

/-- O39 (tier 2). A Down port whose link returns becomes Settling with its settle timer at the setting and lane-up
seconds 0, and LANE PORT on both links; with a settle time of 0 it goes on to Probing in the event, as at a settle
expiry. At a settle expiry the port is Probing with its probe-limit timer at the setting and an empty run, LANE PORT
is raised, and in a canonical table every record then compares with that port available: those that find an unheld
difference take it, join both change sets and raise ORIGIN CHANGE, and nothing else changes. At a probe-limit expiry
in Probing the port sets Unconfirmed and raises LANE PORT. Where the state or timer is another, nothing changes (log
1, DEDUCED). That the catch-up stands in the same event as the port's change is log 24 (DEDUCED).
(07_line_ports_and_lane_assurance.md R118, R119, R123; 06_leads_and_origin_notification.md R104, R105, R109, R111) -/
def Obligations.LineLinkUpSettleAndProbe : Prop :=
  ∀ (l : Lane) (s : State),
    let p := s.lines.get l
    let told := fun c : ControlLink => { c with flags := c.flags ||| EventKind.lanePort.bit }
    let probing := fun q : LinePort =>
      { q with state := .probing, settle := none, probe := some s.globals.probeLimit, run := ⟨none, 0⟩ }
    let catchUp := fun (q : LinePort) (t : State) =>
      Compared (fun _ _ => True) (fun _ _ => False)
        { s with lines := s.lines.set l (probing q), links := ⟨told s.links.one, told s.links.two⟩ } t
    (p.state ≠ .down → exec (.lineLinkUp l) s = .next s) ∧
    (p.state = .down → s.globals.settleTime ≠ 0 → exec (.lineLinkUp l) s =
      .next { s with
        lines := s.lines.set l { p with state := .settling, settle := some s.globals.settleTime, laneUp := 0 },
        links := ⟨told s.links.one, told s.links.two⟩ }) ∧
    (p.state = .down → s.globals.settleTime = 0 → tabWf 256 s.origins = true →
      ∃ t, exec (.lineLinkUp l) s = .next t ∧ catchUp { p with laneUp := 0 } t) ∧
    (p.state = .settling → p.settle ≠ none → tabWf 256 s.origins = true →
      ∃ t, exec (.settleExpiry l) s = .next t ∧ catchUp p t) ∧
    (p.state ≠ .settling ∨ p.settle = none → exec (.settleExpiry l) s = .next s) ∧
    (p.state = .probing → p.probe ≠ none → exec (.probeLimitExpiry l) s =
      .next { s with lines := s.lines.set l { p with unconfirmed := true, probe := none },
                     links := ⟨told s.links.one, told s.links.two⟩ }) ∧
    (p.state ≠ .probing ∨ p.probe = none → exec (.probeLimitExpiry l) s = .next s)

/-- O40 (tier 2). A counted roll-call at a Down or Settling port changes nothing. Elsewhere its code lengthens a run
of that code up to 3 or starts a run of 1, and the assurance count rises by 1. A run of 3 names Confirmed for the
port's own code and Crossed for the other; a port in another state takes the named one, stops a probe-limit timer and
clears Unconfirmed when it leaves Probing, and raises LANE PORT, and CROSSED when it enters Crossed, on both links.
Nothing else changes. (07_line_ports_and_lane_assurance.md R120, R121, R123, R130) -/
def Obligations.AssuranceDecidesAtThree : Prop :=
  ∀ (l code : Lane) (s : State),
    let p := s.lines.get l
    let run : AssuranceRun := if p.run.code = some code then ⟨some code, min 3 (p.run.len + 1)⟩ else ⟨some code, 1⟩
    let named : PortState := if code = l then .confirmed else .crossed
    let counted : LinePort := { p with run := run, cnt := { p.cnt with assurance := p.cnt.assurance + 1 } }
    let told := fun c : ControlLink =>
      { c with flags := c.flags ||| EventKind.lanePort.bit |||
          (if named = .crossed then EventKind.crossed.bit else 0) }
    (p.state = .down ∨ p.state = .settling → countAssurance l code s = s) ∧
    (p.state ≠ .down → p.state ≠ .settling → p.run.len ≤ 3 →
      countAssurance l code s =
        if run.len = 3 ∧ named ≠ p.state then
          { s with
            lines := s.lines.set l { counted with
              state := named,
              probe := if p.state = .probing then none else p.probe,
              unconfirmed := if p.state = .probing then false else p.unconfirmed },
            links := ⟨told s.links.one, told s.links.two⟩ }
        else s.setLine l counted)

/-- O41 (tier 2). At the end of a running start quiet, which ends it, and at each expiry of a running roll-call timer,
the timer restarts with the roll-call interval. Unless both line ports are Down the roll-call with the known stations
is offered with the counter's value to each port that is not Down, queued in protection when that holds fewer than 48
frames and counted as shed otherwise, and the counter rises by 1. Nothing else changes. Without a running quiet or
timer nothing happens (log 1, DEDUCED). (07_line_ports_and_lane_assurance.md R124, R125, R126;
01_frames_classes_and_the_lane_trailer.md R3, R10) -/
def Obligations.AnnouncementIsNumberedAndOffered : Prop :=
  ∀ s : State,
    let body := rollCallBody s.station s.globals.rollInterval (s.bays.one.station.toList ++ s.bays.two.station.toList)
    let offered := fun (l : Lane) (p : LinePort) =>
      if p.state = .down then p
      else if p.prot.length < 48 then
        { p with prot := p.prot ++ [⟨.rollCall, body ++ trailerBytes s.rollSeq l .rollCall body.length⟩] }
      else { p with cnt := { p.cnt with shedRoll := p.cnt.shedRoll + 1 } }
    let said : State :=
      if s.lines.a.state = .down ∧ s.lines.b.state = .down then { s with rollTimer := some s.globals.rollInterval }
      else { s with rollTimer := some s.globals.rollInterval, rollSeq := s.rollSeq + 1,
                    lines := ⟨offered .a s.lines.a, offered .b s.lines.b⟩ }
    (s.quiet ≠ none → exec .startQuietEnd s = .next { said with quiet := none }) ∧
    (s.quiet = none → exec .startQuietEnd s = .next s) ∧
    (s.rollTimer ≠ none → exec .rollCallTimerExpiry s = .next said) ∧
    (s.rollTimer = none → exec .rollCallTimerExpiry s = .next s)

/-- O42 (tier 2). A line port not Down, with no link-fail timer running and no frame in transmission, takes the head
of its protection queue when it holds any and otherwise the head of its background queue, and passes its bytes and
their FCS to the PHY; with both queues empty, without link or while transmitting nothing changes. The end of a
transmission counts it by its queue. Nothing else changes. That a start or an end whose condition does not hold
changes nothing is log 1 (DEDUCED); the bytes of the FCS are log 4 (PRESUMED). (07_line_ports_and_lane_assurance.md
R127, R128; 01_frames_classes_and_the_lane_trailer.md R3) -/
def Obligations.LineTransmissionServesProtectionFirst : Prop :=
  ∀ (l : Lane) (s : State),
    let p := s.lines.get l
    let free := p.state ≠ .down ∧ p.linkFail = none ∧ p.sending = none
    (∀ f fs, free → p.prot = f :: fs → exec (.lineTransmitStart l) s =
      .next (s.setLine l { p with prot := fs, sending := some ⟨.protection, wireOf f.data⟩ })) ∧
    (∀ f fs, free → p.prot = [] → p.back = f :: fs → exec (.lineTransmitStart l) s =
      .next (s.setLine l { p with back := fs, sending := some ⟨.background, wireOf f.data⟩ })) ∧
    (¬ free ∨ (p.prot = [] ∧ p.back = []) → exec (.lineTransmitStart l) s = .next s) ∧
    (∀ w, p.sending = some ⟨.protection, w⟩ → exec (.lineTransmitDone l) s =
      .next (s.setLine l { p with sending := none, cnt := { p.cnt with txProt := p.cnt.txProt + 1 } })) ∧
    (∀ w, p.sending = some ⟨.background, w⟩ → exec (.lineTransmitDone l) s =
      .next (s.setLine l { p with sending := none, cnt := { p.cnt with txBack := p.cnt.txBack + 1 } })) ∧
    (p.sending = none → exec (.lineTransmitDone l) s = .next s)

/-- O43 (tier 2). BAY_LINK_UP makes the port Link-up and changes nothing else. BAY_LINK_DOWN of a Link-up port forgets
the station address, empties and counts both queues, ends and counts a frame on the wire, stops the pacing timer and
keeps the send sequence counter and every other count; nothing else changes. That a BAY_LINK_DOWN at a Link-down port
changes nothing is log 1 (DEDUCED). (02_sending_on_both_lanes.md R16; 08_delivery_to_the_bay.md R139, R140, R141) -/
def Obligations.BayLinkUpAndDown : Prop :=
  ∀ (m : Master) (s : State),
    let p := s.bays.get m
    let cnt : BayCounts := match p.sending with
      | none => p.cnt
      | some ⟨.protection, _⟩ => { p.cnt with txProt := p.cnt.txProt + 1 }
      | some ⟨.background, _⟩ => { p.cnt with txBack := p.cnt.txBack + 1 }
    exec (.bayLinkUp m) s = .next (s.setBay m { p with up := true }) ∧
    (p.up = true → exec (.bayLinkDown m) s = .next (s.setBay m
      { up := false, station := none, sendSeq := p.sendSeq, prot := [], back := [], sending := none, pacing := none,
        cnt := { cnt with flush := cnt.flush + BitVec.ofNat 32 (p.prot.length + p.back.length) } })) ∧
    (p.up = false → exec (.bayLinkDown m) s = .next s)

/-- O44 (tier 2). A Link-up bay port that is not transmitting takes the head of protection when it holds any, which
leaves the pacing timer alone; otherwise, while the pacing timer is not running, the head of background, which starts
the timer with the gap when that is 1 or more. While the timer runs with protection empty, with both queues empty,
while transmitting or Link-down nothing changes. The end of a transmission counts it by its queue, and the expiry of a
running timer stops it and, in a free port with protection empty, begins the head of background in the same event,
which starts the timer again with the gap. Nothing else changes. That a start, an end or an expiry whose condition
does not hold changes nothing is log 1 (DEDUCED); that a protection frame queued in a free port at the expiry is left
to its own BAY_TRANSMIT_START is log 29 (DEDUCED); the bytes of the FCS are log 4 (PRESUMED).
(08_delivery_to_the_bay.md R139, R140, R141) -/
def Obligations.BayTransmissionIsPaced : Prop :=
  ∀ (m : Master) (s : State),
    let p := s.bays.get m
    let gap := (s.bayCfg.get m).gap
    let free := p.up = true ∧ p.sending = none
    (∀ f fs, free → p.prot = f :: fs → exec (.bayTransmitStart m) s =
      .next (s.setBay m { p with prot := fs, sending := some ⟨.protection, wireOf f.data⟩ })) ∧
    (∀ f fs, free → p.prot = [] → p.back = f :: fs → p.pacing = none → exec (.bayTransmitStart m) s =
      .next (s.setBay m { p with back := fs, sending := some ⟨.background, wireOf f.data⟩,
                                 pacing := if gap = 0 then none else some gap })) ∧
    (¬ free ∨ (p.prot = [] ∧ (p.back = [] ∨ p.pacing ≠ none)) → exec (.bayTransmitStart m) s = .next s) ∧
    (∀ w, p.sending = some ⟨.protection, w⟩ → exec (.bayTransmitDone m) s =
      .next (s.setBay m { p with sending := none, cnt := { p.cnt with txProt := p.cnt.txProt + 1 } })) ∧
    (∀ w, p.sending = some ⟨.background, w⟩ → exec (.bayTransmitDone m) s =
      .next (s.setBay m { p with sending := none, cnt := { p.cnt with txBack := p.cnt.txBack + 1 } })) ∧
    (p.sending = none → exec (.bayTransmitDone m) s = .next s) ∧
    (p.pacing = none → exec (.pacingTimerExpiry m) s = .next s) ∧
    (∀ f fs, p.pacing ≠ none → free → p.prot = [] → p.back = f :: fs → exec (.pacingTimerExpiry m) s =
      .next (s.setBay m { p with back := fs, sending := some ⟨.background, wireOf f.data⟩,
                                 pacing := if gap = 0 then none else some gap })) ∧
    (p.pacing ≠ none → ¬ free ∨ p.prot ≠ [] ∨ p.back = [] →
      exec (.pacingTimerExpiry m) s = .next (s.setBay m { p with pacing := none }))

/-- O45 (tier 2). A good frame on a Link-up bay port x of at most 1,514 bytes, with no start quiet and not both bulk
and shed in Alert, takes the value of the send sequence counter, which rises by 1; its class is its group entry's, and
bulk for an unknown group, broadcast or individual address; the sent count of its class rises by 1. Each line port
that is not Down queues its copy, with its lane's trailer, at the tail of the class queue when that has room and
counts a shed otherwise. When neither queues one the lost count rises by 1. Its other counts but foreign source stay,
and no record changes. (02_sending_on_both_lanes.md R17, R26-R30) -/
def Obligations.RelayFrameGoesOutOnBothLanes : Prop :=
  ∀ (x : Master) (f : RxFrame) (s : State),
    let p := s.bays.get x
    let cls := classByTable s (destOf f.data)
    let seq := p.sendSeq
    let room := fun q : LinePort => if cls = .bulk then q.back.length < 96 else q.prot.length < 48
    let copy := fun l : Lane => (⟨cls, f.data ++ trailerBytes seq l cls f.data.length⟩ : Frame)
    (∀ a, classByTable s a = (if isGroup a = true then (match findGroup s.groups a with
      | none => .bulk
      | some (_, g) => g.cls.traffic) else .bulk)) ∧
    (p.up = true → frameGood f = true → s.quiet = none → f.data.length ≤ 1514 →
      ¬ (cls = .bulk ∧ s.alert = .alert ∧ (s.bayCfg.get x).shedding = true) →
      ∃ t, exec (.bayFrameReceive x f) s = .next t ∧
        (t.bays.get x).sendSeq = seq + 1 ∧
        (∀ l, let q := s.lines.get l
          t.lines.get l =
            if q.state = .down then q
            else if room q then
              if cls = .bulk then { q with back := q.back ++ [copy l] } else { q with prot := q.prot ++ [copy l] }
            else { q with cnt := (match cls with
              | .trip => { q.cnt with shedTrip := q.cnt.shedTrip + 1 }
              | .sample => { q.cnt with shedSample := q.cnt.shedSample + 1 }
              | _ => { q.cnt with shedBulk := q.cnt.shedBulk + 1 }) }) ∧
        (t.bays.get x).cnt.sentTrip = p.cnt.sentTrip + (if cls = .trip then 1 else 0) ∧
        (t.bays.get x).cnt.sentSample = p.cnt.sentSample + (if cls = .sample then 1 else 0) ∧
        (t.bays.get x).cnt.sentBulk = p.cnt.sentBulk + (if cls = .bulk then 1 else 0) ∧
        (t.bays.get x).cnt.lost = p.cnt.lost +
          (if (s.lines.a.state = .down ∨ ¬ room s.lines.a) ∧ (s.lines.b.state = .down ∨ ¬ room s.lines.b) then 1 else 0) ∧
        (t.bays.get x).cnt = { p.cnt with
          foreign := (t.bays.get x).cnt.foreign, sentTrip := (t.bays.get x).cnt.sentTrip,
          sentSample := (t.bays.get x).cnt.sentSample, sentBulk := (t.bays.get x).cnt.sentBulk,
          lost := (t.bays.get x).cnt.lost } ∧
        t.origins = s.origins)

/-- O46 (tier 2). A good frame on a Link-up bay port that is longer than 1,514 bytes is counted oversize; else one
taken in during the start quiet is counted quiet; else a bulk frame in Alert with the port's shedding on is counted
alert shed toward lanes; in each case its other counts but foreign source, the send sequence counter and both line
ports stay as they stand. Every good frame teaches an absent station address its source when that is individual, and
counts a foreign source when it is a group address with none known or differs from the known one, which stays. Every
good frame of class trip, also one that is withheld, puts the bay in Alert with the alert hold timer at its setting,
and ALERT is raised on both links from Calm; a frame of another class leaves the alert state, its timer and the ALERT
flags alone. Its own port is not offered the frame: queues, transmission and pacing timer stay. Beyond the alert unit,
the bay and line ports and the event flags nothing changes: no record, change set, timer or sequence of the roll-call
unit, nor the start quiet. (02_sending_on_both_lanes.md R18, R19, R20, R21, R23, R24, R25; 08_delivery_to_the_bay.md
R142, R143) -/
def Obligations.LaneChecksWithholdAndStationIsLearned : Prop :=
  ∀ (x : Master) (f : RxFrame) (s : State),
    let p := s.bays.get x
    let src := sourceOf f.data
    let bulk := classByTable s (destOf f.data) = .bulk
    p.up = true → frameGood f = true →
    let trip := classByTable s (destOf f.data) = .trip
    ∃ t, exec (.bayFrameReceive x f) s = .next t ∧
      t.alert = (if trip then .alert else s.alert) ∧
      t.alertHold = (if trip then some s.globals.alertHold else s.alertHold) ∧
      (∀ m, hasKind (t.links.get m).flags .alert =
        (hasKind (s.links.get m).flags .alert || decide (trip ∧ s.alert = .calm))) ∧
      t = { s with alert := t.alert, alertHold := t.alertHold, bays := t.bays, lines := t.lines, links := t.links } ∧
      (∀ m, t.links.get m = { s.links.get m with flags := (t.links.get m).flags }) ∧
      (let q := t.bays.get x
       let station := match p.station with
        | none => if groupBit src then none else some src
        | some a => some a
       let foreign := p.cnt.foreign + (match p.station with
        | none => if groupBit src then 1 else 0
        | some a => if a = src then 0 else 1)
       q = { p with station := station, sendSeq := q.sendSeq, cnt := q.cnt } ∧ q.cnt.foreign = foreign ∧
       (1514 < f.data.length →
        q.cnt = { p.cnt with foreign := foreign, oversize := p.cnt.oversize + 1 } ∧
        q.sendSeq = p.sendSeq ∧ t.lines = s.lines) ∧
       (f.data.length ≤ 1514 → s.quiet ≠ none →
        q.cnt = { p.cnt with foreign := foreign, quiet := p.cnt.quiet + 1 } ∧
        q.sendSeq = p.sendSeq ∧ t.lines = s.lines) ∧
       (f.data.length ≤ 1514 → s.quiet = none → bulk → s.alert = .alert → (s.bayCfg.get x).shedding = true →
        q.cnt = { p.cnt with foreign := foreign, shedLanes := p.cnt.shedLanes + 1 } ∧
        q.sendSeq = p.sendSeq ∧ t.lines = s.lines))

/-- O47 (tier 2). For every command other than the resets and for each bay port there is an advance of 0 or 1 by which
the send sequence counter rises modulo 65,536 and the sum of sent trip, sent sample and sent bulk rises modulo 2^32.
(02_sending_on_both_lanes.md R30, R26) -/
def Obligations.SentCountsFollowTheSequence : Prop :=
  ∀ (c : Instr) (s t : State) (m : Master), exec c s = .next t →
    (∀ p, c ≠ .powerOn p) → (∀ p, c ≠ .resetPin p) → (∀ p, c ≠ .restartTakesEffect p) →
    ∃ d : Nat, d ≤ 1 ∧ (t.bays.get m).sendSeq = (s.bays.get m).sendSeq + BitVec.ofNat 16 d ∧
      (t.bays.get m).cnt.sentSum = (s.bays.get m).cnt.sentSum + BitVec.ofNat 32 d

/-- O48 (tier 2). For a good frame on Link-up bay port x with y the other: when y is Link-up and the destination is
broadcast, a group whose entry lists y, or y's station address, the frame's own bytes are queued at y in its class
queue and local received rises by 1, provided the queue has room and the frame is not a bulk frame shed by y in Alert;
a shed one raises alert shed toward bay and a full queue the drop count, with QUEUE DROP on both links. Beyond that
and the ALERT of a trip frame from Calm, the links stay as they stand. Otherwise y is left as it stands.
(02_sending_on_both_lanes.md R21, R22; 08_delivery_to_the_bay.md R137, R138, R145) -/
def Obligations.LocalCopyGoesToTheOtherBay : Prop :=
  ∀ (x : Master) (f : RxFrame) (s : State),
    let y := otherMaster x
    let q := s.bays.get y
    let dest := destOf f.data
    let cls := classByTable s dest
    let called := q.up = true ∧
      (dest = 0xFFFFFFFFFFFF#48 ∨ (isGroup dest = true ∧ ∃ i g, findGroup s.groups dest = some (i, g) ∧ g.members.get y = true) ∨
        (groupBit dest = false ∧ q.station = some dest))
    let shed := cls = .bulk ∧ s.alert = .alert ∧ (s.bayCfg.get y).shedding = true
    let room := if cls = .bulk then q.back.length < 128 else q.prot.length < 64
    (s.bays.get x).up = true → frameGood f = true →
    ∃ t, exec (.bayFrameReceive x f) s = .next t ∧
      (¬ called → t.bays.get y = q) ∧
      (called → shed → t.bays.get y = { q with cnt := { q.cnt with shedBay := q.cnt.shedBay + 1 } }) ∧
      (called → ¬ shed → room →
        t.bays.get y =
          if cls = .bulk then
            { q with back := q.back ++ [⟨cls, f.data⟩], cnt := { q.cnt with localRx := q.cnt.localRx + 1 } }
          else { q with prot := q.prot ++ [⟨cls, f.data⟩], cnt := { q.cnt with localRx := q.cnt.localRx + 1 } }) ∧
      (called → ¬ shed → ¬ room →
        t.bays.get y =
          (if cls = .bulk then { q with cnt := { q.cnt with dropBack := q.cnt.dropBack + 1 } }
           else { q with cnt := { q.cnt with dropProt := q.cnt.dropProt + 1 } })) ∧
      (∀ m, let k := s.links.get m
        let told := if cls = .trip ∧ s.alert = .calm then k.flags ||| EventKind.alert.bit else k.flags
        (called ∧ ¬ shed ∧ ¬ room → t.links.get m = { k with flags := told ||| EventKind.queueDrop.bit }) ∧
        (¬ (called ∧ ¬ shed ∧ ¬ room) → t.links.get m = { k with flags := told }))

/-- O49 (tier 2). A good frame without a trailer, and one whose trailer does not match, which adds 1 to trailer
mismatch, changes no record and reports no alert. For the roll-call group it adds 1 to roll-call malformed and nothing
else. Else it keeps all its bytes and has the class of its group entry, bulk without one, and targets both bay ports
for broadcast, the delivery set for a group entry, each port whose policy is deliver for an unknown group, and each
port holding an individual address. Each targeted port that is Link-up sheds a bulk frame in Alert with its shedding
on, else queues the frame in its class queue, else counts a drop, with QUEUE DROP on both links. An untargeted port
stays as it stands but for the unknown group count of a port whose policy is drop. An individual address at neither
port counts as not for bay. Nothing else changes. (08_delivery_to_the_bay.md R135, R136, R137, R138, R145;
01_frames_classes_and_the_lane_trailer.md R5, R8, R9, R13) -/
def Obligations.UntaggedFrameIsOfferedToItsTargets : Prop :=
  ∀ (l : Lane) (f : RxFrame) (s : State),
    let p := s.lines.get l
    let dest := destOf f.data
    let cls := classByTable s dest
    let v := if recognise f.data = .mismatch then
        s.setLine l { p with cnt := { p.cnt with trailerMismatch := p.cnt.trailerMismatch + 1 } }
      else s
    p.state ≠ .down → frameGood f = true → (∀ t, recognise f.data ≠ .tagged t) →
    ∃ t, exec (.lineFrameReceive l f) s = .next t ∧ t.origins = s.origins ∧ t.alert = s.alert ∧
      (dest = 0x0B4750000001#48 → MalformedAt l v t) ∧
      (dest ≠ 0x0B4750000001#48 → DeliveredAs l dest ⟨cls, f.data⟩ v t)

/-- O50 (tier 1). A trip report starts or restarts the alert hold at the setting and from Calm enters Alert and raises
ALERT on both links. The expiry of a running hold returns to Calm and raises ALERT on both. A seconds tick adds 1 to
the seconds and to the lane-up seconds of each port not Down. A select period cut after at least one byte adds 1 to
its link's cut count; an unknown command is answered BAD-COMMAND with no results. Nothing else changes. That an expiry
without a running hold, and a cut that is none, change nothing is log 1 (DEDUCED); that the seconds wrap at 2^32 is
log 15 (DEDUCED); that UNKNOWN_COMMAND with a known code is answered so too is log 28 (DESIGN CHOICE).
(08_delivery_to_the_bay.md R143; 07_line_ports_and_lane_assurance.md R129; 10_control_links_and_reporting.md R160,
R161; 01_frames_classes_and_the_lane_trailer.md R14) -/
def Obligations.AlertHoldSecondsCutAndUnknown : Prop :=
  ∀ s : State,
    let told := fun c : ControlLink => { c with flags := c.flags ||| EventKind.alert.bit }
    let second := fun p : LinePort => if p.state = .down then p else { p with laneUp := p.laneUp + 1 }
    (s.alert = .calm → tripReport s = { s with alert := .alert, alertHold := some s.globals.alertHold,
                                               links := ⟨told s.links.one, told s.links.two⟩ }) ∧
    (s.alert = .alert → tripReport s = { s with alertHold := some s.globals.alertHold }) ∧
    (s.alertHold ≠ none → exec .alertHoldExpiry s =
      .next { s with alert := .calm, alertHold := none, links := ⟨told s.links.one, told s.links.two⟩ }) ∧
    (s.alertHold = none → exec .alertHoldExpiry s = .next s) ∧
    exec .secondsTick s =
      .next { s with seconds := s.seconds + 1, lines := ⟨second s.lines.a, second s.lines.b⟩ } ∧
    (∀ m bs, isCut bs = true → exec (.cutTransaction m bs) s =
      .next (s.setLink m { s.links.get m with framing := .idle, cut := (s.links.get m).cut + 1 })) ∧
    (∀ m bs, isCut bs = false → exec (.cutTransaction m bs) s = .next s) ∧
    ∀ m code x, exec (.unknownCommand m code x) s =
      .next (s.setLink m { s.links.get m with framing := .answering, answer := some ⟨.badCommand, []⟩ })

/-- O51 (tier 2). On a ready part, with arguments of the command's length, each answers OK with the fields of R162 in
order, most significant byte first, and nothing but the answer changes: device code 0420h, revision, link number,
station address and cut count; seconds, restart count, both lane-up seconds and the tick counter; found and index,
both 0 when no record holds the address; a group entry's present flag, address, class and memberships, zeros for a
free slot, BAD-INDEX above slot 63; the pending flag and the last apply result. A class is trip 0, sample 1 or bulk 2;
an outcome none 0, ACCEPTED 1, ACCEPTED-CLAMPED 2 or REFUSED 3; a refusal reason NOT-OWNER 0, ORDER 1, REFERENCE 2,
REFERENCED 3, NO-ROOM 4, CLASS-CONFLICT 5, GROUP-FULL 6 or UNKNOWN 7. That the fields without a value (before any
apply, and the first clamped item of a refused one) are 0 is log 14 (DEDUCED). (10_control_links_and_reporting.md
R162, R163, R165; 09_staging_ownership_and_apply.md R159) -/
def Obligations.IdentityTimeAndLookupsAnswer : Prop :=
  ([GroupClass.trip, .sample, .bulk].map GroupClass.position = [0, 1, 2] ∧
    [RefusalReason.notOwner, .order, .reference, .referenced, .noRoom, .classConflict, .groupFull, .unknown].map
      RefusalReason.position = [0, 1, 2, 3, 4, 5, 6, 7]) ∧
  ∀ (m : Master) (s : State), s.ready = true →
    let k := s.links.get m
    let ans := fun (st : Status) (r : List Byte) =>
      Host.Outcome.next (φ := Fault) (ρ := Refusal)
        (s.setLink m { k with framing := .answering, answer := some ⟨st, r⟩ })
    let c4 := fun c : Count => beBytes 4 c.toNat
    exec (.identify m (.taken [])) s =
      ans .ok ([0x04#8, 0x20#8, s.revision, (match m with
        | .m1 => 1#8
        | .m2 => 2#8)] ++ beBytes 6 s.station.toNat ++ c4 k.cut) ∧
    exec (.readTime m (.taken [])) s =
      ans .ok (c4 s.seconds ++ c4 s.restarts ++ c4 s.lines.a.laneUp ++ c4 s.lines.b.laneUp ++ c4 s.tick) ∧
    (∀ bs, bs.length = 6 → exec (.findOrigin m (.taken bs)) s =
      (match findOrigin s (addrAt bs 0) with
       | none => ans .ok [0#8, 0#8]
       | some (i, _) => ans .ok [1#8, BitVec.ofNat 8 i])) ∧
    (∀ b : Byte, exec (.readGroup m (.taken [b])) s =
      if 63 < b.toNat then ans .badIndex []
      else
        match tabGet s.groups b.toNat with
        | none => ans .ok [0#8, 0#8, 0#8, 0#8, 0#8, 0#8, 0#8, 0#8, 0#8, 0#8]
        | some g => ans .ok ([1#8] ++ beBytes 6 g.addr.toNat ++ [BitVec.ofNat 8 g.cls.position,
            if g.members.one then 1#8 else 0#8, if g.members.two then 1#8 else 0#8])) ∧
    exec (.readApplyResult m (.taken [])) s =
      ans .ok ((if s.applyPending.get m then 1#8 else 0#8) :: (match s.applyResult.get m with
        | .none => [0#8, 0#8, 0#8, 0#8]
        | .accepted n => [1#8, BitVec.ofNat 8 n, 0#8, 0#8]
        | .clamped n first => [2#8, BitVec.ofNat 8 n, BitVec.ofNat 8 first, 0#8]
        | .refused reason n => [3#8, BitVec.ofNat 8 n, 0#8, BitVec.ofNat 8 reason.position]))

/-- O52 (tier 2). On a ready part READ ORIGIN of a part above 6 is BAD-INDEX, of a free index the flag 0 alone, and of
a record the flag 1 and the part's fields in the order of R164, of 38, 14, 5 + 7 per open pair, 19, 20, 49 and 4 bytes
in all; in part 1 the bit at offset n of the delivered set stands at bit n mod 8 of the eighth byte from its end less
n / 8. READ PORT of a port above 3 or a part above 2 is BAD-INDEX, and otherwise answers the part's fields in the
order of R166 for line port A, line port B, bay port 1 or bay port 2, of 10, 36 or 32 bytes for a line port and 19, 36
or 32 for a bay port. Sixteenths are three bytes of two's complement, a field that may be absent has its presence byte
and is zeros when absent, and a value is coded by its place in the manual's order: baseline mode Off 0 to Capture 3;
level Steady 0, Drift 1, Excess 2, Gross 3; direction A-late 0, none 1, B-late 2; lane state Paired 0, Lone-A 1,
Lone-B 2, Fragmented 3, Silent 4; port state Down 0, Settling 1, Probing 2, Confirmed 3, Crossed 4; policy deliver 0,
drop 1; Calm 0, Alert 1. Codes the manual does not write out are log 13 (DEDUCED); the announcer index 0 of a note
whose cause is a frame is log 14 (DESIGN CHOICE). Nothing but the answer changes. (10_control_links_and_reporting.md
R161, R162, R164, R166) -/
def Obligations.ReadOriginAndReadPortAnswer : Prop :=
  ([PortState.down, .settling, .probing, .confirmed, .crossed].map PortState.position = [0, 1, 2, 3, 4] ∧
    [LaneState.paired, .loneA, .loneB, .fragmented, .silent].map LaneState.position = [0, 1, 2, 3, 4] ∧
    [Level.steady, .drift, .excess, .gross].map Level.position = [0, 1, 2, 3] ∧
    [Direction.aLate, .neither, .bLate].map Direction.position = [0, 1, 2] ∧
    [GroupPolicy.deliver, .drop].map GroupPolicy.position = [0, 1] ∧
    [AlertState.calm, .alert].map AlertState.position = [0, 1]) ∧
  ∀ (m : Master) (i part : Byte) (s : State), s.ready = true →
    let k := s.links.get m
    let ans := fun (st : Status) (r : List Byte) =>
      Host.Outcome.next (φ := Fault) (ρ := Refusal)
        (s.setLink m { k with framing := .answering, answer := some ⟨st, r⟩ })
    let n1 := fun n : Nat => ([BitVec.ofNat 8 n] : List Byte)
    let n2 := fun n : Nat => beBytes 2 n
    let c4 := fun c : Count => beBytes 4 c.toNat
    let fl := fun b : Bool => (if b then [1#8] else [0#8] : List Byte)
    let q3 := fun v : Int => beBytes 3 (BitVec.ofInt 24 v).toNat
    let maybe := fun (x : Option (List Byte)) (width : Nat) => match x with
      | some bs => 1#8 :: bs
      | none => 0#8 :: List.replicate width 0#8
    let lane := fun l : Lane => match l with
      | .a => [0#8]
      | .b => [1#8]
    let originParts := fun r : Origin => [
      beBytes 6 r.addr.toNat ++ fl (!r.owners.one && !r.owners.two) ++
        n1 ((if r.owners.one then 1 else 0) + (if r.owners.two then 2 else 0)) ++
        n1 (match r.cfg.mode with
          | .off => 0
          | .auto => 1
          | .manual => 2
          | .capture => 3) ++
        q3 r.cfg.manual ++ n1 r.cfg.k ++ n1 r.cfg.j ++ n1 r.cfg.m ++ n2 r.cfg.t1 ++ n2 r.cfg.t2 ++ n2 r.cfg.t3 ++
        n1 r.cfg.c ++ n2 r.cfg.spike ++ fl r.cfg.hi ++ fl r.cfg.lo ++ n1 r.cfg.hold ++ maybe (r.cfg.ref.map n1) 1 ++
        n1 r.cfg.weight ++ fl r.cfg.suppress ++ n1 r.cfg.silence ++ maybe (r.forgetTime.map n1) 1 ++
        maybe (r.note.map fun x => match x with
          | .frameOn l => lane l ++ [0#8]
          | .rollCallOf n => 2#8 :: n1 n) 2,
      fl r.win.seeded ++ n2 r.win.highest.toNat ++ beBytes 8 r.win.delivered.toNat ++ n1 r.win.staleRun ++
        n1 r.win.pairs.length,
      fl r.win.seeded ++ n2 r.win.highest.toNat ++ n1 r.win.pairs.length ++
        r.win.pairs.flatMap fun p => n2 p.seq.toNat ++ lane p.first ++ c4 p.tick,
      n1 r.lane.miss.a ++ n1 r.lane.miss.b ++ n1 r.lane.state.position ++ maybe (r.lane.last.a.map c4) 4 ++
        maybe (r.lane.last.b.map c4) 4 ++ maybe (r.lane.lastFrame.map c4) 4,
      fl r.pipe.seeded ++ q3 r.pipe.filtered ++ q3 r.pipe.baseline ++ q3 r.pipe.raw ++ q3 r.pipe.dev ++
        n1 r.pipe.dir.position ++ n1 r.pipe.level.position ++ n1 r.pipe.cand.position ++ n1 r.pipe.candCount ++
        n1 r.pipe.decim ++ fl r.pipe.hold.isSome,
      [r.cnt.accepted, r.cnt.twins, r.cnt.repeats, r.cnt.lateA, r.cnt.lateB, r.cnt.missA, r.cnt.missB, r.cnt.stale,
        r.cnt.resyncs, r.cnt.spikes, r.cnt.saturated, r.cnt.abandoned].flatMap c4,
      n1 r.notif.level.position ++ n1 r.notif.dir.position ++ n1 r.notif.lane.position]
    let lineParts := fun l : Lane =>
      let p := s.lines.get l
      let c := p.cnt
      [n1 p.state.position ++ fl p.unconfirmed ++ maybe (p.run.code.map lane) 1 ++ n1 p.run.len ++
        fl (decide (p.state ≠ .down) && p.linkFail.isNone) ++ fl p.linkFail.isSome ++ n1 p.prot.length ++
        n1 p.back.length ++ fl s.quiet.isSome,
      [c.rxError, c.trailerMismatch, c.rollMalformed, c.echo, c.overflow, c.proxySkipped, c.notForBay, c.assurance,
        c.missUnavail].flatMap c4,
      [c.shedTrip, c.shedSample, c.shedBulk, c.shedRoll, c.glitch, c.flush, c.txProt, c.txBack].flatMap c4]
    let bayParts := fun x : Master =>
      let p := s.bays.get x
      let b := s.bayCfg.get x
      let c := p.cnt
      [fl p.up ++ maybe (p.station.map fun a => beBytes 6 a.toNat) 6 ++ n2 p.sendSeq.toNat ++
        n1 b.policy.position ++ fl b.shedding ++ n2 b.gap ++ n1 p.prot.length ++ n1 p.back.length ++
        fl p.pacing.isSome ++ n1 s.alert.position ++ fl s.alertHold.isSome,
      [c.rxError, c.foreign, c.oversize, c.quiet, c.shedLanes, c.lost, c.sentTrip, c.sentSample, c.sentBulk].flatMap c4,
      [c.localRx, c.flush, c.unknownDropped, c.shedBay, c.dropProt, c.dropBack, c.txProt, c.txBack].flatMap c4]
    let ports := [lineParts .a, lineParts .b, bayParts .m1, bayParts .m2]
    (6 < part.toNat → exec (.readOrigin m (.taken [i, part])) s = ans .badIndex []) ∧
    (part.toNat ≤ 6 → originAt s i.toNat = none → exec (.readOrigin m (.taken [i, part])) s = ans .ok [0#8]) ∧
    (∀ r, part.toNat ≤ 6 → originAt s i.toNat = some r →
      ∃ res, exec (.readOrigin m (.taken [i, part])) s = ans .ok (1#8 :: res) ∧
        (originParts r)[part.toNat]? = some res ∧
        [38, 14, 5 + 7 * r.win.pairs.length, 19, 20, 49, 4][part.toNat]? = some (res.length + 1) ∧
        (part = 1 → ∀ n, n < 64 → ∃ b, res[3 + (7 - n / 8)]? = some b ∧
          b.getLsbD (n % 8) = r.win.delivered.getLsbD n)) ∧
    (3 < i.toNat ∨ 2 < part.toNat → exec (.readPort m (.taken [i, part])) s = ans .badIndex []) ∧
    (∀ parts, ports[i.toNat]? = some parts → part.toNat ≤ 2 →
      ∃ res, exec (.readPort m (.taken [i, part])) s = ans .ok res ∧ parts[part.toNat]? = some res ∧
        some res.length = (if i.toNat ≤ 1 then [10, 36, 32] else [19, 36, 32])[part.toNat]?)

/-- O53 (tier 2). On a ready part: READ EVENTS answers flags, mask, attention and change-set size and clears nothing,
attention being 1 exactly when one of the eleven flags is set and not masked; ACK EVENTS clears the named flags but
RESTART SEEN and answers those that remain; ACK RESTART clears RESTART SEEN; SET EVENT MASK takes the named kinds;
READ CHANGES answers and removes up to 16 indices from the front of the rising set and answers how many remain.
Nothing else changes. The kinds ORIGIN CHANGE, TABLE FULL, LANE PORT, LINK LOST, CROSSED, ALERT, QUEUE DROP, APPLY
DONE, SAVE DONE, STORE REJECTED and RESTART SEEN stand at bits 0 to 10 in this order.
(10_control_links_and_reporting.md R162, R167, R168, R169, R170) -/
def Obligations.EventFlagsMaskAndChangesAnswer : Prop :=
  ([EventKind.originChange, .tableFull, .lanePort, .linkLost, .crossed, .alert, .queueDrop, .applyDone, .saveDone,
      .storeRejected, .restartSeen].map EventKind.bit =
    [0x0001#16, 0x0002#16, 0x0004#16, 0x0008#16, 0x0010#16, 0x0020#16, 0x0040#16, 0x0080#16, 0x0100#16, 0x0200#16,
      0x0400#16]) ∧
  ∀ (m : Master) (s : State), s.ready = true →
    let k := s.links.get m
    let ans := fun (k : ControlLink) (r : List Byte) =>
      Host.Outcome.next (φ := Fault) (ρ := Refusal)
        (s.setLink m { k with framing := .answering, answer := some ⟨.ok, r⟩ })
    let named := fun b1 b0 : Byte => BitVec.ofNat 16 (b1.toNat * 256 + b0.toNat)
    exec (.readEvents m (.taken [])) s =
      ans k (beBytes 2 k.flags.toNat ++ beBytes 2 k.mask.toNat ++
        [if (List.range 11).any fun n => k.flags.getLsbD n && !k.mask.getLsbD n then 1#8 else 0#8] ++
        beBytes 2 k.changes.length) ∧
    (∀ b1 b0 : Byte, let left := k.flags &&& ~~~(named b1 b0 &&& ~~~0x0400#16)
      exec (.ackEvents m (.taken [b1, b0])) s = ans { k with flags := left } (beBytes 2 left.toNat)) ∧
    exec (.ackRestart m (.taken [])) s = ans { k with flags := k.flags &&& ~~~0x0400#16 } [] ∧
    (∀ b1 b0 : Byte, exec (.setEventMask m (.taken [b1, b0])) s = ans { k with mask := named b1 b0 &&& 0x07FF#16 } []) ∧
    exec (.readChanges m (.taken [])) s =
      ans { k with changes := k.changes.drop 16 }
        ([BitVec.ofNat 8 (min 16 k.changes.length)] ++ beBytes 2 (k.changes.length - 16) ++
          (k.changes.take 16).map fun i => BitVec.ofNat 8 i)

/-- O54 (tier 2). On a ready part STAGE answers BUSY with an apply pending, FULL with 32 items, the form check's BAD-
LENGTH or BAD-INDEX, and otherwise OK with the item at the tail of the area. DISCARD STAGING and APPLY answer BUSY
with an apply pending, and otherwise OK with the area empty, or the apply pending. An unready part answers STAGE with
BUSY. STAGE with a length byte above 64 answers BAD-LENGTH in every state, before BUSY and FULL. Nothing else changes.
(09_staging_ownership_and_apply.md R148, R150, R151; 10_control_links_and_reporting.md R161;
01_frames_classes_and_the_lane_trailer.md R14) -/
def Obligations.StageDiscardAndApplyAnswer : Prop :=
  ∀ (m : Master) (bs : List Byte) (s : State), bs.length ≤ 64 →
    let k := s.links.get m
    let area := s.staging.get m
    let ans := fun (st : Status) (s : State) =>
      Host.Outcome.next (φ := Fault) (ρ := Refusal)
        (s.setLink m { k with framing := .answering, answer := some ⟨st, []⟩ })
    (∀ n : Byte, exec (.stage m (.overlong n)) s = ans .badLength s) ∧
    (s.ready = false → exec (.stage m (.taken bs)) s = ans .busy s) ∧
    (s.ready = true → s.applyPending.get m = true →
      exec (.stage m (.taken bs)) s = ans .busy s ∧ exec (.discardStaging m (.taken [])) s = ans .busy s ∧
      exec (.apply m (.taken [])) s = ans .busy s) ∧
    (s.ready = true → s.applyPending.get m = false →
      (32 ≤ area.length → exec (.stage m (.taken bs)) s = ans .full s) ∧
      (∀ st, area.length < 32 → formCheck bs = .error st → exec (.stage m (.taken bs)) s = ans st s) ∧
      (∀ it, area.length < 32 → formCheck bs = .ok it →
        exec (.stage m (.taken bs)) s = ans .ok { s with staging := s.staging.set m (area ++ [it]) }) ∧
      exec (.discardStaging m (.taken [])) s = ans .ok { s with staging := s.staging.set m [] } ∧
      exec (.apply m (.taken [])) s = ans .ok { s with applyPending := s.applyPending.set m true })

/-- O55 (tier 2). For every item whose addresses are individual or group as its kind asks, whose codes are within
their values and whose numbers fit their bytes, the form check of the bytes the STAGE layout gives it answers that
item; every byte string the form check admits has its kind's length and gives such an item. The form check answers
BAD-LENGTH exactly for an unknown kind or a length other than the kind's (37, 7, 7, 8, 7, 8 and 4 for kinds 0 to 6),
and BAD-INDEX exactly for a right length with an origin item or reference link of a group-bit address, a group item of
no group address, an unknown setting or a code outside its values; it answers no other status. A baseline mode is
coded Off 0, Auto 1, Manual 2, Capture 3, and a class trip 0, sample 1, bulk 2. (09_staging_ownership_and_apply.md
R149; 10_control_links_and_reporting.md R162) -/
def Obligations.StagedItemsAreReadAsWritten : Prop :=
  ([BaselineMode.off, .auto, .manual, .capture].map BaselineMode.position = [0, 1, 2, 3] ∧
    [GroupClass.trip, .sample, .bulk].map GroupClass.position = [0, 1, 2]) ∧
  (∀ it : Item, it.fits → formCheck it.bytes = .ok it) ∧
  (∀ (bs : List Byte) (it : Item), formCheck bs = .ok it →
    it.fits ∧ ∃ kind rest, bs = kind :: rest ∧ itemLength kind.toNat = some bs.length) ∧
  ∀ bs : List Byte,
    (formCheck bs = .error .badLength ↔ ¬ FormLengthRight bs) ∧
    (formCheck bs = .error .badIndex ↔ FormLengthRight bs ∧ FormIndexBad bs) ∧
    ∀ st, formCheck bs = .error st → st = .badLength ∨ st = .badIndex

/-- O56 (tier 2). APPLY_TAKEN takes link 1's pending apply, else link 2's, else nothing happens (log 1, DEDUCED).
Where an item fails, only the result REFUSED with that reason and number, the end of pending and APPLY DONE for that
master change, and the staging area is kept. Otherwise the items were committed in turn, each in the state the earlier
ones left, and the result holds the number of items, and that of the first one that reports a clamp, if any; the area
is empty, and the delivery table, settings and silent order are as the items in turn left them, and every index holds
the record they left there, but for its notified status, or is free as they left it. From that state every record
compares, in a canonical table, which settles the notified status and the change sets, and nothing else changes. The
failing item is the first that fails in the state the earlier items left. (09_staging_ownership_and_apply.md R152,
R153, R158, R159; 06_leads_and_origin_notification.md R104, R105, R112) -/
def Obligations.ApplyCommitsAllOrNothing : Prop :=
  ∀ s : State,
    let taken := fun (m : Master) (t : State) =>
      let items := s.staging.get m
      (∀ reason n, commitItems m items 1 0 s = .error (reason, n) →
        t = { s with applyPending := s.applyPending.set m false,
                     applyResult := s.applyResult.set m (.refused reason n),
                     links := s.links.set m { s.links.get m with
                       flags := (s.links.get m).flags ||| EventKind.applyDone.bit } } ∧
        1 ≤ n ∧ ∃ it u f, items[n - 1]? = some it ∧ commitItems m (items.take (n - 1)) 1 0 s = .ok (u, f) ∧
          commitItem m it u = .error reason) ∧
      (∀ u first, commitItems m items 1 0 s = .ok (u, first) ↔
        ∃ clamps, CommitsInTurn m items s clamps u ∧ FirstClamped clamps first) ∧
      (∀ u first, commitItems m items 1 0 s = .ok (u, first) →
        t.staging = s.staging.set m [] ∧ t.applyPending = s.applyPending.set m false ∧
        t.applyResult = s.applyResult.set m
          (if first = 0 then .accepted items.length else .clamped items.length first) ∧
        hasKind (t.links.get m).flags .applyDone = true ∧
        hasKind (t.links.get (otherMaster m)).flags .applyDone =
          hasKind (s.links.get (otherMaster m)).flags .applyDone ∧
        t.groups = u.groups ∧ t.globals = u.globals ∧ t.bayCfg = u.bayCfg ∧ t.silentOrder = u.silentOrder ∧
        (∀ i, (originAt u i = none → originAt t i = none) ∧
          ∀ r, originAt u i = some r → ∃ n, originAt t i = some { r with notif := n }) ∧
        (tabWf 256 s.origins = true → ∃ w, Compared (fun _ _ => True) (fun _ _ => False) u w ∧
          t = { w with staging := t.staging, applyPending := t.applyPending, applyResult := t.applyResult,
                       links := w.links.set m { w.links.get m with
                         flags := (w.links.get m).flags ||| EventKind.applyDone.bit } }))
    (s.applyPending.one = true → ∃ t, exec .applyTaken s = .next t ∧ taken .m1 t) ∧
    (s.applyPending.one = false → s.applyPending.two = true → ∃ t, exec .applyTaken s = .next t ∧ taken .m2 t) ∧
    (s.applyPending.one = false → s.applyPending.two = false → exec .applyTaken s = .next s)

/-- O57 (tier 2). With the address held by a configured record that does not list the master, a put, delete and share
are refused NOT-OWNER (before ORDER and REFERENCE: log 10, DEDUCED); with a learned record or none, a delete and a
share UNKNOWN. Else a put is refused ORDER for thresholds that do not rise after clamping, REFERENCE for a link R155
does not admit, NO-ROOM without a record in a full table; otherwise it creates a record at the lowest free index,
Silent, with an unseeded window and pipeline (baseline the manual one in Manual mode, else 0), every tick absent, no
timer, counters 0 and notified status Steady, none, Silent (its highest sequence 0: log 8, DESIGN CHOICE), its index
in both change sets and ORIGIN CHANGE raised on both links, and TABLE FULL where it fills the table; or promotes a
learned one, or replaces the settings, the link resolved to its index, a manual baseline of another mode than Manual
kept (0 for a new owner). A promoted or replaced record keeps its window, lane part, counters and notified status, a
replaced one its owners, and the pipeline follows R99 to R101: the mode's effect, a restarted hold, a reseed of a
seeded pipeline. A share makes both owners; a delete removes the master, and the record with its last owner unless it
is a lead (REFERENCED). A join of another class is CLASS-CONFLICT, one without an entry at 64 entries GROUP-FULL; else
it adds the port, or an entry in the lowest free slot. A leave removes the port, and the entry when none remains.
(09_staging_ownership_and_apply.md R153, R154, R155, R156, R157, R158; 03_the_origin_table.md R33, R34, R37, R44, R45,
R50, R78; 05_skew_supervision.md R99, R100, R101; 06_leads_and_origin_notification.md R103, R104, R106;
08_delivery_to_the_bay.md R132) -/
def Obligations.ItemsAreJudgedByOwnership : Prop :=
  ∀ (m : Master) (a : Addr) (f : PutFields) (s : State),
    let g := f.clamped
    let put := commitItem m (.originPut a f) s
    let del := commitItem m (.originDelete a) s
    let share := commitItem m (.originShare a) s
    let rises := g.t1 < g.t2 ∧ g.t2 < g.t3
    let mine : PerMaster Bool := PerMaster.set ⟨false, false⟩ m true
    let settings := fun (x : Option Nat) (kept : Int) => ({
      mode := f.mode, manual := if f.mode = .manual then g.manual else kept, k := g.k, j := g.j, m := g.m, t1 := g.t1,
      t2 := g.t2, t3 := g.t3, c := g.c, spike := g.spike, hi := f.hi, lo := f.lo, hold := g.hold, ref := x,
      weight := g.weight, suppress := f.suppress, silence := g.silence } : OriginSettings)
    let told := fun (i : Nat) (c : ControlLink) =>
      { c with changes := setInsert i c.changes, flags := c.flags ||| EventKind.originChange.bit }
    let foreign := ∃ i r, findOrigin s a = some (i, r) ∧ r.owners ≠ ⟨false, false⟩ ∧ r.owners.get m = false
    (¬ foreign → ¬ rises → put = .error .order) ∧
    (¬ foreign → rises → (¬ ∃ x, RefResolves s a f.ref x) → put = .error .reference) ∧
    (findOrigin s a = none → del = .error .unknown ∧ share = .error .unknown ∧
      ∀ x, rises → RefResolves s a f.ref x →
        (256 ≤ s.origins.length → put = .error .noRoom) ∧
        (s.origins.length < 256 → tabWf 256 s.origins = true →
          let r : Origin := {
            addr := a, owners := mine, forgetTime := none, note := none, cfg := settings x 0,
            win := ⟨false, 0, 0, [], 0⟩, lane := ⟨⟨0, 0⟩, .silent, ⟨none, none⟩, none⟩,
            pipe := ⟨false, 0, if f.mode = .manual then g.manual else 0, 0, 0, .neither, .steady, .steady, 0, 0, none⟩,
            notif := ⟨.steady, .neither, .silent⟩, cnt := ⟨0, 0, 0, 0, 0, 0, 0, 0, 0, 0, 0, 0⟩, silence := none,
            forget := none }
          ∃ i, tabGet s.origins i = none ∧ (∀ k, k < i → tabGet s.origins k ≠ none) ∧
            let filled := fun c : ControlLink =>
              if s.origins.length = 255 then { c with flags := c.flags ||| EventKind.tableFull.bit } else c
            let t := { s with
              origins := tabPut s.origins i r, links := ⟨told i (filled s.links.one), told i (filled s.links.two)⟩ }
            put = .ok (t, decide (g ≠ f)) ∧ originAt t i = some r ∧ ∀ k, k ≠ i → originAt t k = originAt s k)) ∧
    (∀ i r, findOrigin s a = some (i, r) →
      (r.owners = ⟨false, false⟩ → del = .error .unknown ∧ share = .error .unknown ∧
        ∀ x, rises → RefResolves s a f.ref x → ∃ q, CommittedPipe r.cfg (settings x 0) f.reseed r.pipe q ∧
          put = .ok ({ s with
            origins := tabPut s.origins i { r with
              cfg := settings x 0, pipe := q, owners := mine, forgetTime := none, note := none, forget := none },
            silentOrder := s.silentOrder.erase i,
            links := ⟨told i s.links.one, told i s.links.two⟩ }, decide (g ≠ f))) ∧
      (r.owners ≠ ⟨false, false⟩ → r.owners.get m = false →
        put = .error .notOwner ∧ del = .error .notOwner ∧ share = .error .notOwner) ∧
      (r.owners.get m = true →
        share = .ok ({ s with origins := tabPut s.origins i { r with owners := ⟨true, true⟩ } }, false) ∧
        (r.owners.get (otherMaster m) = true →
          del = .ok ({ s with origins := tabPut s.origins i { r with owners := r.owners.set m false } }, false)) ∧
        (r.owners.get (otherMaster m) = false → (∃ e ∈ s.origins, e.2.cfg.ref = some i) → del = .error .referenced) ∧
        (r.owners.get (otherMaster m) = false → (∀ e ∈ s.origins, e.2.cfg.ref ≠ some i) →
          del = .ok ({ s with origins := tabErase s.origins i, silentOrder := s.silentOrder.erase i,
                              links := ⟨told i s.links.one, told i s.links.two⟩ }, false)) ∧
        ∀ x, rises → RefResolves s a f.ref x →
          ∃ q, CommittedPipe r.cfg (settings x r.cfg.manual) f.reseed r.pipe q ∧
            put = .ok ({ s with origins := tabPut s.origins i { r with cfg := settings x r.cfg.manual, pipe := q } },
              decide (g ≠ f)))) ∧
    ∀ cls : GroupClass,
      let join := commitItem m (.groupJoin a cls) s
      let leave := commitItem m (.groupLeave a) s
      (findGroup s.groups a = none → leave = .ok (s, false) ∧ (64 ≤ s.groups.length → join = .error .groupFull) ∧
        (s.groups.length < 64 → tabWf 64 s.groups = true → ∃ i, i < 64 ∧ tabGet s.groups i = none ∧
          (∀ k, k < i → tabGet s.groups k ≠ none) ∧
          join = .ok ({ s with groups := tabPut s.groups i ⟨a, cls, mine⟩ }, false))) ∧
      ∀ i e, findGroup s.groups a = some (i, e) →
        (e.cls ≠ cls → join = .error .classConflict) ∧
        (e.cls = cls →
          join = .ok ({ s with groups := tabPut s.groups i { e with members := e.members.set m true } }, false)) ∧
        (e.members.get (otherMaster m) = true →
          leave = .ok ({ s with groups := tabPut s.groups i { e with members := e.members.set m false } }, false)) ∧
        (e.members.get (otherMaster m) = false → leave = .ok ({ s with groups := tabErase s.groups i }, false))

/-- O58 (tier 2). Every clamped origin put has k at most 4, j 4 to 11, M, H and silence time 1 to 255, thresholds and
spike limit 1 to 32,767, C 1 to 4, w at most 128, and in Manual mode a manual baseline within 524,272 sixteenths; a
field in range is unchanged, one below takes the lower limit and one above the upper. A global setting put does the
same with the ranges of R162; the link-fail time becomes the nearest of 0, 5, 20 and 100, the larger of two equally
near. The put replaces that one setting and reports whether a value was clamped; codes are taken as they are;
thresholds that do not rise after clamping are refused ORDER; a new loss limit gives every record that is not Silent
the lane state its miss runs then give. A bay-port setting put replaces that setting of the master's own port. Nothing
else changes. (09_staging_ownership_and_apply.md R153, R156, R157, R158; 03_the_origin_table.md section 3.2;
04_twin_judgment.md R75; 08_delivery_to_the_bay.md R133; 10_control_links_and_reporting.md R162) -/
def Obligations.ValuesOutsideTheirRangesAreClamped : Prop :=
  (∀ f : PutFields,
    let g := f.clamped
    Limited 0 4 f.k g.k ∧ Limited 4 11 f.j g.j ∧ Limited 1 255 f.m g.m ∧ Limited 1 32767 f.t1 g.t1 ∧
    Limited 1 32767 f.t2 g.t2 ∧ Limited 1 32767 f.t3 g.t3 ∧ Limited 1 4 f.c g.c ∧ Limited 1 32767 f.spike g.spike ∧
    Limited 1 255 f.hold g.hold ∧ Limited 0 128 f.weight g.weight ∧ Limited 1 255 f.silence g.silence ∧
    (f.mode = .manual → (-524272 ≤ f.manual → f.manual ≤ 524272 → g.manual = f.manual) ∧
      (f.manual < -524272 → g.manual = -524272) ∧ (524272 < f.manual → g.manual = 524272)) ∧
    (f.mode ≠ .manual → g.manual = f.manual) ∧ g.mode = f.mode ∧ g.ref = f.ref ∧ g.hi = f.hi ∧ g.lo = f.lo ∧
    g.suppress = f.suppress ∧ g.reseed = f.reseed) ∧
  (∀ v : Nat,
    let w := globalClamp .linkFailTime v
    (w = 0 ∨ w = 5 ∨ w = 20 ∨ w = 100) ∧
    (∀ x : Nat, (x = 0 ∨ x = 5 ∨ x = 20 ∨ x = 100) →
      ((w : Int) - v).natAbs ≤ ((x : Int) - v).natAbs ∧
      (((w : Int) - v).natAbs = ((x : Int) - v).natAbs → x ≤ w)) ∧
    (w = v ↔ v = 0 ∨ v = 5 ∨ v = 20 ∨ v = 100)) ∧
  (∀ (limit : Nat) (miss : PerLane Nat),
    (miss.a < limit → miss.b < limit → laneStateOf limit miss = .paired) ∧
    (miss.a < limit → limit ≤ miss.b → laneStateOf limit miss = .loneA) ∧
    (limit ≤ miss.a → miss.b < limit → laneStateOf limit miss = .loneB) ∧
    (limit ≤ miss.a → limit ≤ miss.b → laneStateOf limit miss = .fragmented)) ∧
  ∀ (m : Master) (s : State) (v1 v2 v : Nat),
    let x := s.globals
    let p := s.globals.profile
    let put := fun g : GlobalSetting => commitItem m (.globalPut g v1 v2 v) s
    let numbered := fun (g : GlobalSetting) (lo hi : Nat) (new : Nat → Globals) =>
      ∃ w, Limited lo hi v w ∧ put g = .ok ({ s with globals := new w }, decide (w ≠ v))
    let coded := fun (g : GlobalSetting) (new : Globals) => put g = .ok ({ s with globals := new }, false)
    numbered .pairTimeout 1 255 (fun w => { x with pairTimeout := w }) ∧
    (∃ w, Limited 1 15 v w ∧ put .lossLimit = .ok ({ s with
      globals := { x with lossLimit := w },
      origins := s.origins.map fun e => (e.1, if e.2.lane.state = .silent then e.2
        else { e.2 with lane := { e.2.lane with state := laneStateOf w e.2.lane.miss } }) }, decide (w ≠ v))) ∧
    numbered .profileK 0 4 (fun w => { x with profile := { p with k := w } }) ∧
    numbered .profileJ 4 11 (fun w => { x with profile := { p with j := w } }) ∧
    numbered .profileM 1 255 (fun w => { x with profile := { p with m := w } }) ∧
    numbered .profileC 1 4 (fun w => { x with profile := { p with c := w } }) ∧
    numbered .profileSpike 1 32767 (fun w => { x with profile := { p with spike := w } }) ∧
    numbered .profileHold 1 255 (fun w => { x with profile := { p with hold := w } }) ∧
    numbered .profileSilence 1 255 (fun w => { x with profile := { p with silence := w } }) ∧
    numbered .profileForget 1 255 (fun w => { x with profile := { p with forget := w } }) ∧
    numbered .rollInterval 1 80 (fun w => { x with rollInterval := w }) ∧
    numbered .probeLimit 1 30 (fun w => { x with probeLimit := w }) ∧
    numbered .settleTime 0 255 (fun w => { x with settleTime := w }) ∧
    numbered .startQuiet 0 50 (fun w => { x with startQuiet := w }) ∧
    numbered .alertHold 1 255 (fun w => { x with alertHold := w }) ∧
    (let w := globalClamp .linkFailTime v
     put .linkFailTime = .ok ({ s with globals := { x with linkFailTime := w } }, decide (w ≠ v))) ∧
    (∃ w1 w2 w3, Limited 1 32767 v1 w1 ∧ Limited 1 32767 v2 w2 ∧ Limited 1 32767 v w3 ∧
      (w1 < w2 → w2 < w3 → put .profileThresholds =
        .ok ({ s with globals := { x with profile := { p with t1 := w1, t2 := w2, t3 := w3 } } },
          decide (w1 ≠ v1 ∨ w2 ≠ v2 ∨ w3 ≠ v))) ∧
      (w2 ≤ w1 ∨ w3 ≤ w2 → put .profileThresholds = .error .order)) ∧
    (∀ b : Bool, v = (if b then 1 else 0) →
      coded .learning { x with learning := b } ∧ coded .profileHi { x with profile := { p with hi := b } } ∧
      coded .profileLo { x with profile := { p with lo := b } } ∧
      coded .band { x with band := if b then .sixteenth else .eighth } ∧
      commitItem m (.bayPut .policy v) s = .ok ({ s with
        bayCfg := s.bayCfg.set m { s.bayCfg.get m with policy := if b then .drop else .deliver } }, false) ∧
      commitItem m (.bayPut .shedding v) s = .ok ({ s with
        bayCfg := s.bayCfg.set m { s.bayCfg.get m with shedding := b } }, false)) ∧
    (∀ mode : BaselineMode, v = (match mode with
        | .off => 0
        | .auto => 1
        | .manual => 2
        | .capture => 3) → coded .profileMode { x with profile := { p with mode := mode } }) ∧
    commitItem m (.bayPut .gap v) s = .ok ({ s with bayCfg := s.bayCfg.set m { s.bayCfg.get m with gap := v } }, false)

/-- O59 (tier 2). On a ready part SAVE SET answers BAD-INDEX above 2, BUSY with a save in flight, for 0 makes set 0
the choice and reports OK to the requester, and for 1 or 2 takes the snapshot, makes the set invalid and answers OK. A
completion whose verify matches makes the set the snapshot, valid and chosen; one that does not leaves it invalid;
both end the save and report to the requester with SAVE DONE. SELECT START SET takes 0 or a valid set, leaves the
choice for 255, answers BAD-INDEX otherwise, and else the seven fields, a set by its number, 0, 1 or 2, and an outcome
as none 0, OK 1, FAILED 2, the set number of no save being 0 (log 14, DEDUCED). RESTART answers BUSY with a save in
flight and otherwise OK with the restart armed (log 19, DEDUCED). A completion without a save changes nothing (log 1,
DEDUCED). That a set being written, and one whose save failed, keeps its old content behind its invalid mark is the
model's choice (log 18). (11_stored_settings_and_start_up.md R171, R172, R173, R175; 10_control_links_and_reporting.md
R162; 01_frames_classes_and_the_lane_trailer.md R15) -/
def Obligations.StoreCommandsSaveSelectAndRestart : Prop :=
  [SetNo.s0, .s1, .s2].map SetNo.position = [0, 1, 2] ∧
  ∀ (m : Master) (b : Byte) (s : State),
    let k := s.links.get m
    let ans := fun (k : ControlLink) (st : Status) (r : List Byte) (s : State) =>
      Host.Outcome.next (φ := Fault) (ρ := Refusal) (s.setLink m { k with framing := .answering, answer := some ⟨st, r⟩ })
    let flag := fun x : Bool => if x then 1#8 else 0#8
    let done := fun (c : ControlLink) => { c with flags := c.flags ||| EventKind.saveDone.bit }
    let snap : SetContent := ⟨tabFilterMap Origin.stored s.origins, s.groups, s.globals, s.bayCfg⟩
    (s.ready = true →
      (2 < b.toNat → exec (.saveSet m (.taken [b])) s = ans k .badIndex [] s) ∧
      (b.toNat ≤ 2 → s.save ≠ none → exec (.saveSet m (.taken [b])) s = ans k .busy [] s) ∧
      (b.toNat = 0 → s.save = none → exec (.saveSet m (.taken [b])) s =
        ans (done k) .ok [] { s with startSet := .s0, saveResult := s.saveResult.set m (.ok .s0) }) ∧
      (b.toNat = 1 → s.save = none → exec (.saveSet m (.taken [b])) s =
        ans k .ok [] { s with set1 := { s.set1 with checkHolds := false, valid := false }, save := some ⟨.u1, m, snap⟩ }) ∧
      (b.toNat = 2 → s.save = none → exec (.saveSet m (.taken [b])) s =
        ans k .ok [] { s with set2 := { s.set2 with checkHolds := false, valid := false }, save := some ⟨.u2, m, snap⟩ }) ∧
      (∀ n : SetNo, (n = .s0 ∧ b = 0 ∨ n = .s1 ∧ b = 1 ∧ s.set1.valid = true ∨ n = .s2 ∧ b = 2 ∧ s.set2.valid = true ∨
          n = s.startSet ∧ b = 255) →
        ∃ last, exec (.selectStartSet m (.taken [b])) s =
          ans k .ok ([BitVec.ofNat 8 n.position, flag s.set1.valid, flag s.set2.valid, flag s.save.isSome,
            (match s.save with
             | some ⟨.u1, _, _⟩ => 1#8
             | some ⟨.u2, _, _⟩ => 2#8
             | none => 0#8)] ++ last) { s with startSet := n } ∧
          (s.saveResult.get m = .none → last = [0#8, 0#8]) ∧
          (∀ n, s.saveResult.get m = .ok n → last = [1#8, BitVec.ofNat 8 n.position]) ∧
          (∀ n, s.saveResult.get m = .failed n → last = [2#8, BitVec.ofNat 8 n.position])) ∧
      (b = 1 ∧ s.set1.valid = false ∨ b = 2 ∧ s.set2.valid = false ∨ 2 < b.toNat ∧ b ≠ 255 →
        exec (.selectStartSet m (.taken [b])) s = ans k .badIndex [] s) ∧
      (s.save ≠ none → exec (.restart m (.taken [])) s = ans k .busy [] s) ∧
      (s.save = none → exec (.restart m (.taken [])) s = ans k .ok [] { s with restartArmed := true })) ∧
    (∀ v, s.save = none → exec (.saveCompletion v) s = .next s) ∧
    (∀ u r c, s.save = some ⟨u, r, c⟩ →
      let n : SetNo := match u with
        | .u1 => .s1
        | .u2 => .s2
      let told := s.links.set r (done (s.links.get r))
      exec (.saveCompletion false) s =
        .next { s with save := none, saveResult := s.saveResult.set r (.failed n), links := told } ∧
      exec (.saveCompletion true) s = .next (
        let s' := { s with save := none, startSet := n, saveResult := s.saveResult.set r (.ok n), links := told }
        match u with
        | .u1 => { s' with set1 := ⟨c, true, true⟩ }
        | .u2 => { s' with set2 := ⟨c, true, true⟩ }))

/-- O60 (tier 2). POWER_ON and RESET_PIN both leave the reset state with the clock counts 0, the identity, the queue
and the start-set choice kept, each user set's mark as its check, the set's configured records as an apply creates
them, its groups and settings, RESTART SEEN on both links and STORE REJECTED too when the chosen set was invalid. A
port whose PHY reports link is Link-up, or Settling with its settle timer (Probing with its probe-limit timer at a
settle time of 0) and LANE PORT on both links. A loaded start quiet of 1 or more runs; one of 0 has ended: the roll-
call timer runs, and when a line port is not Down the first roll-call, sequence 0 and no proxies, waits in protection
of each that is not Down, and the counter is 1. RESTART_TAKES_EFFECT of an armed restart with no save in flight does
the same but keeps tick and seconds and adds 1 to the restart count; otherwise nothing happens (log 1 and log 19,
DEDUCED). That a loaded record's highest sequence is 0 (log 8) and that a reset keeps the queue (log 26) are the
model's choices. (11_stored_settings_and_start_up.md R171, R174, R175; 03_the_origin_table.md R37, R54;
07_line_ports_and_lane_assurance.md R115, R118, R119, R124-R126; 02_sending_on_both_lanes.md R16;
01_frames_classes_and_the_lane_trailer.md R3, R10) -/
def Obligations.ResetsClearEverythingButStoreAndClock : Prop :=
  ∀ s : State,
    let c := startContent s
    let flags : EventSet := if startRejected s then 0x0600#16 else 0x0400#16
    let load := fun x : StoredOrigin => ({
      addr := x.addr, owners := x.owners, cfg := x.cfg, forgetTime := none, note := none,
      win := ⟨false, 0, 0, [], 0⟩, lane := ⟨⟨0, 0⟩, .silent, ⟨none, none⟩, none⟩,
      pipe := ⟨false, 0, if x.cfg.mode = .manual then x.cfg.manual else 0, 0, 0, .neither, .steady, .steady, 0, 0, none⟩,
      notif := ⟨.steady, .neither, .silent⟩, cnt := ⟨0, 0, 0, 0, 0, 0, 0, 0, 0, 0, 0, 0⟩,
      silence := none, forget := none } : Origin)
    let body := rollCallBody s.station c.globals.rollInterval []
    let line := fun (l : Lane) (up : Bool) =>
      let q : LinePort :=
        if c.globals.settleTime = 0 then { LinePort.reset with state := .probing, probe := some c.globals.probeLimit }
        else { LinePort.reset with state := .settling, settle := some c.globals.settleTime }
      if up = false then LinePort.reset
      else if c.globals.startQuiet = 0 then { q with prot := [⟨.rollCall, body ++ trailerBytes 0 l .rollCall body.length⟩] }
      else q
    let link := fun phys : Phys => { ControlLink.reset with
      flags := if phys.lineA = true ∨ phys.lineB = true then flags ||| EventKind.lanePort.bit else flags }
    let after := fun (phys : Phys) (tick : Tick) (seconds restarts : Count) =>
      Host.Outcome.next (φ := Fault) (ρ := Refusal) { State.reset with
        station := s.station, revision := s.revision, tick := tick, seconds := seconds, restarts := restarts,
        origins := c.origins.map (fun e => (e.1, load e.2)), groups := c.groups, globals := c.globals, bayCfg := c.bayCfg,
        lines := ⟨line .a phys.lineA, line .b phys.lineB⟩,
        bays := ⟨{ BayPort.reset with up := phys.bay1 }, { BayPort.reset with up := phys.bay2 }⟩,
        quiet := if c.globals.startQuiet = 0 then none else some c.globals.startQuiet,
        rollTimer := if c.globals.startQuiet = 0 then some c.globals.rollInterval else none,
        rollSeq := if c.globals.startQuiet = 0 ∧ (phys.lineA = true ∨ phys.lineB = true) then 1 else 0,
        links := ⟨link phys, link phys⟩,
        set1 := { s.set1 with valid := s.set1.checkHolds }, set2 := { s.set2 with valid := s.set2.checkHolds },
        startSet := s.startSet, pending := s.pending }
    ∀ phys : Phys,
      exec (.powerOn phys) s = after phys 0 0 0 ∧ exec (.resetPin phys) s = after phys 0 0 0 ∧
      (s.restartArmed = true → s.save = none →
        exec (.restartTakesEffect phys) s = after phys s.tick s.seconds (s.restarts + 1)) ∧
      (s.restartArmed = false ∨ s.save ≠ none → exec (.restartTakesEffect phys) s = .next s)
end

