-- ==== Sys2Proof/Laws/State.lean ====
section
/-! SUPPORT. What each named update of the state does to each field: one lemma per field per update. -/

namespace Sys2Proof.Machine

set_option Elab.async false

variable (s : State)

/-! ## `setLine` -/

@[simp] theorem setLine_station (l : Lane) (p : LinePort) : (s.setLine l p).station = s.station := rfl
@[simp] theorem setLine_revision (l : Lane) (p : LinePort) : (s.setLine l p).revision = s.revision := rfl
@[simp] theorem setLine_tick (l : Lane) (p : LinePort) : (s.setLine l p).tick = s.tick := rfl
@[simp] theorem setLine_seconds (l : Lane) (p : LinePort) : (s.setLine l p).seconds = s.seconds := rfl
@[simp] theorem setLine_restarts (l : Lane) (p : LinePort) : (s.setLine l p).restarts = s.restarts := rfl
@[simp] theorem setLine_ready (l : Lane) (p : LinePort) : (s.setLine l p).ready = s.ready := rfl
@[simp] theorem setLine_lines (l : Lane) (p : LinePort) : (s.setLine l p).lines = s.lines.set l p := rfl
@[simp] theorem setLine_bays (l : Lane) (p : LinePort) : (s.setLine l p).bays = s.bays := rfl
@[simp] theorem setLine_rollTimer (l : Lane) (p : LinePort) : (s.setLine l p).rollTimer = s.rollTimer := rfl
@[simp] theorem setLine_rollSeq (l : Lane) (p : LinePort) : (s.setLine l p).rollSeq = s.rollSeq := rfl
@[simp] theorem setLine_quiet (l : Lane) (p : LinePort) : (s.setLine l p).quiet = s.quiet := rfl
@[simp] theorem setLine_origins (l : Lane) (p : LinePort) : (s.setLine l p).origins = s.origins := rfl
@[simp] theorem setLine_silentOrder (l : Lane) (p : LinePort) : (s.setLine l p).silentOrder = s.silentOrder := rfl
@[simp] theorem setLine_groups (l : Lane) (p : LinePort) : (s.setLine l p).groups = s.groups := rfl
@[simp] theorem setLine_globals (l : Lane) (p : LinePort) : (s.setLine l p).globals = s.globals := rfl
@[simp] theorem setLine_bayCfg (l : Lane) (p : LinePort) : (s.setLine l p).bayCfg = s.bayCfg := rfl
@[simp] theorem setLine_alert (l : Lane) (p : LinePort) : (s.setLine l p).alert = s.alert := rfl
@[simp] theorem setLine_alertHold (l : Lane) (p : LinePort) : (s.setLine l p).alertHold = s.alertHold := rfl
@[simp] theorem setLine_staging (l : Lane) (p : LinePort) : (s.setLine l p).staging = s.staging := rfl
@[simp] theorem setLine_applyPending (l : Lane) (p : LinePort) : (s.setLine l p).applyPending = s.applyPending := rfl
@[simp] theorem setLine_applyResult (l : Lane) (p : LinePort) : (s.setLine l p).applyResult = s.applyResult := rfl
@[simp] theorem setLine_links (l : Lane) (p : LinePort) : (s.setLine l p).links = s.links := rfl
@[simp] theorem setLine_set1 (l : Lane) (p : LinePort) : (s.setLine l p).set1 = s.set1 := rfl
@[simp] theorem setLine_set2 (l : Lane) (p : LinePort) : (s.setLine l p).set2 = s.set2 := rfl
@[simp] theorem setLine_startSet (l : Lane) (p : LinePort) : (s.setLine l p).startSet = s.startSet := rfl
@[simp] theorem setLine_save (l : Lane) (p : LinePort) : (s.setLine l p).save = s.save := rfl
@[simp] theorem setLine_saveResult (l : Lane) (p : LinePort) : (s.setLine l p).saveResult = s.saveResult := rfl
@[simp] theorem setLine_restartArmed (l : Lane) (p : LinePort) : (s.setLine l p).restartArmed = s.restartArmed := rfl
@[simp] theorem setLine_pending (l : Lane) (p : LinePort) : (s.setLine l p).pending = s.pending := rfl

/-! ## `onLine` -/

@[simp] theorem onLine_station (l : Lane) (f : LinePort → LinePort) : (s.onLine l f).station = s.station := rfl
@[simp] theorem onLine_revision (l : Lane) (f : LinePort → LinePort) : (s.onLine l f).revision = s.revision := rfl
@[simp] theorem onLine_tick (l : Lane) (f : LinePort → LinePort) : (s.onLine l f).tick = s.tick := rfl
@[simp] theorem onLine_seconds (l : Lane) (f : LinePort → LinePort) : (s.onLine l f).seconds = s.seconds := rfl
@[simp] theorem onLine_restarts (l : Lane) (f : LinePort → LinePort) : (s.onLine l f).restarts = s.restarts := rfl
@[simp] theorem onLine_ready (l : Lane) (f : LinePort → LinePort) : (s.onLine l f).ready = s.ready := rfl
@[simp] theorem onLine_lines (l : Lane) (f : LinePort → LinePort) :
    (s.onLine l f).lines = s.lines.set l (f (s.lines.get l)) := rfl
@[simp] theorem onLine_bays (l : Lane) (f : LinePort → LinePort) : (s.onLine l f).bays = s.bays := rfl
@[simp] theorem onLine_rollTimer (l : Lane) (f : LinePort → LinePort) : (s.onLine l f).rollTimer = s.rollTimer := rfl
@[simp] theorem onLine_rollSeq (l : Lane) (f : LinePort → LinePort) : (s.onLine l f).rollSeq = s.rollSeq := rfl
@[simp] theorem onLine_quiet (l : Lane) (f : LinePort → LinePort) : (s.onLine l f).quiet = s.quiet := rfl
@[simp] theorem onLine_origins (l : Lane) (f : LinePort → LinePort) : (s.onLine l f).origins = s.origins := rfl
@[simp] theorem onLine_silentOrder (l : Lane) (f : LinePort → LinePort) :
    (s.onLine l f).silentOrder = s.silentOrder := rfl
@[simp] theorem onLine_groups (l : Lane) (f : LinePort → LinePort) : (s.onLine l f).groups = s.groups := rfl
@[simp] theorem onLine_globals (l : Lane) (f : LinePort → LinePort) : (s.onLine l f).globals = s.globals := rfl
@[simp] theorem onLine_bayCfg (l : Lane) (f : LinePort → LinePort) : (s.onLine l f).bayCfg = s.bayCfg := rfl
@[simp] theorem onLine_alert (l : Lane) (f : LinePort → LinePort) : (s.onLine l f).alert = s.alert := rfl
@[simp] theorem onLine_alertHold (l : Lane) (f : LinePort → LinePort) : (s.onLine l f).alertHold = s.alertHold := rfl
@[simp] theorem onLine_staging (l : Lane) (f : LinePort → LinePort) : (s.onLine l f).staging = s.staging := rfl
@[simp] theorem onLine_applyPending (l : Lane) (f : LinePort → LinePort) :
    (s.onLine l f).applyPending = s.applyPending := rfl
@[simp] theorem onLine_applyResult (l : Lane) (f : LinePort → LinePort) :
    (s.onLine l f).applyResult = s.applyResult := rfl
@[simp] theorem onLine_links (l : Lane) (f : LinePort → LinePort) : (s.onLine l f).links = s.links := rfl
@[simp] theorem onLine_set1 (l : Lane) (f : LinePort → LinePort) : (s.onLine l f).set1 = s.set1 := rfl
@[simp] theorem onLine_set2 (l : Lane) (f : LinePort → LinePort) : (s.onLine l f).set2 = s.set2 := rfl
@[simp] theorem onLine_startSet (l : Lane) (f : LinePort → LinePort) : (s.onLine l f).startSet = s.startSet := rfl
@[simp] theorem onLine_save (l : Lane) (f : LinePort → LinePort) : (s.onLine l f).save = s.save := rfl
@[simp] theorem onLine_saveResult (l : Lane) (f : LinePort → LinePort) :
    (s.onLine l f).saveResult = s.saveResult := rfl
@[simp] theorem onLine_restartArmed (l : Lane) (f : LinePort → LinePort) :
    (s.onLine l f).restartArmed = s.restartArmed := rfl
@[simp] theorem onLine_pending (l : Lane) (f : LinePort → LinePort) : (s.onLine l f).pending = s.pending := rfl

/-! ## `countLine` -/

@[simp] theorem countLine_station (l : Lane) (f : LineCounts → LineCounts) :
    (s.countLine l f).station = s.station := rfl
@[simp] theorem countLine_revision (l : Lane) (f : LineCounts → LineCounts) :
    (s.countLine l f).revision = s.revision := rfl
@[simp] theorem countLine_tick (l : Lane) (f : LineCounts → LineCounts) : (s.countLine l f).tick = s.tick := rfl
@[simp] theorem countLine_seconds (l : Lane) (f : LineCounts → LineCounts) :
    (s.countLine l f).seconds = s.seconds := rfl
@[simp] theorem countLine_restarts (l : Lane) (f : LineCounts → LineCounts) :
    (s.countLine l f).restarts = s.restarts := rfl
@[simp] theorem countLine_ready (l : Lane) (f : LineCounts → LineCounts) : (s.countLine l f).ready = s.ready := rfl
@[simp] theorem countLine_lines (l : Lane) (f : LineCounts → LineCounts) :
    (s.countLine l f).lines = s.lines.set l { s.lines.get l with cnt := f (s.lines.get l).cnt } := rfl
@[simp] theorem countLine_bays (l : Lane) (f : LineCounts → LineCounts) : (s.countLine l f).bays = s.bays := rfl
@[simp] theorem countLine_rollTimer (l : Lane) (f : LineCounts → LineCounts) :
    (s.countLine l f).rollTimer = s.rollTimer := rfl
@[simp] theorem countLine_rollSeq (l : Lane) (f : LineCounts → LineCounts) :
    (s.countLine l f).rollSeq = s.rollSeq := rfl
@[simp] theorem countLine_quiet (l : Lane) (f : LineCounts → LineCounts) : (s.countLine l f).quiet = s.quiet := rfl
@[simp] theorem countLine_origins (l : Lane) (f : LineCounts → LineCounts) :
    (s.countLine l f).origins = s.origins := rfl
@[simp] theorem countLine_silentOrder (l : Lane) (f : LineCounts → LineCounts) :
    (s.countLine l f).silentOrder = s.silentOrder := rfl
@[simp] theorem countLine_groups (l : Lane) (f : LineCounts → LineCounts) : (s.countLine l f).groups = s.groups := rfl
@[simp] theorem countLine_globals (l : Lane) (f : LineCounts → LineCounts) :
    (s.countLine l f).globals = s.globals := rfl
@[simp] theorem countLine_bayCfg (l : Lane) (f : LineCounts → LineCounts) : (s.countLine l f).bayCfg = s.bayCfg := rfl
@[simp] theorem countLine_alert (l : Lane) (f : LineCounts → LineCounts) : (s.countLine l f).alert = s.alert := rfl
@[simp] theorem countLine_alertHold (l : Lane) (f : LineCounts → LineCounts) :
    (s.countLine l f).alertHold = s.alertHold := rfl
@[simp] theorem countLine_staging (l : Lane) (f : LineCounts → LineCounts) :
    (s.countLine l f).staging = s.staging := rfl
@[simp] theorem countLine_applyPending (l : Lane) (f : LineCounts → LineCounts) :
    (s.countLine l f).applyPending = s.applyPending := rfl
@[simp] theorem countLine_applyResult (l : Lane) (f : LineCounts → LineCounts) :
    (s.countLine l f).applyResult = s.applyResult := rfl
@[simp] theorem countLine_links (l : Lane) (f : LineCounts → LineCounts) : (s.countLine l f).links = s.links := rfl
@[simp] theorem countLine_set1 (l : Lane) (f : LineCounts → LineCounts) : (s.countLine l f).set1 = s.set1 := rfl
@[simp] theorem countLine_set2 (l : Lane) (f : LineCounts → LineCounts) : (s.countLine l f).set2 = s.set2 := rfl
@[simp] theorem countLine_startSet (l : Lane) (f : LineCounts → LineCounts) :
    (s.countLine l f).startSet = s.startSet := rfl
@[simp] theorem countLine_save (l : Lane) (f : LineCounts → LineCounts) : (s.countLine l f).save = s.save := rfl
@[simp] theorem countLine_saveResult (l : Lane) (f : LineCounts → LineCounts) :
    (s.countLine l f).saveResult = s.saveResult := rfl
@[simp] theorem countLine_restartArmed (l : Lane) (f : LineCounts → LineCounts) :
    (s.countLine l f).restartArmed = s.restartArmed := rfl
@[simp] theorem countLine_pending (l : Lane) (f : LineCounts → LineCounts) :
    (s.countLine l f).pending = s.pending := rfl

/-! ## `setBay` -/

@[simp] theorem setBay_station (m : Master) (p : BayPort) : (s.setBay m p).station = s.station := rfl
@[simp] theorem setBay_revision (m : Master) (p : BayPort) : (s.setBay m p).revision = s.revision := rfl
@[simp] theorem setBay_tick (m : Master) (p : BayPort) : (s.setBay m p).tick = s.tick := rfl
@[simp] theorem setBay_seconds (m : Master) (p : BayPort) : (s.setBay m p).seconds = s.seconds := rfl
@[simp] theorem setBay_restarts (m : Master) (p : BayPort) : (s.setBay m p).restarts = s.restarts := rfl
@[simp] theorem setBay_ready (m : Master) (p : BayPort) : (s.setBay m p).ready = s.ready := rfl
@[simp] theorem setBay_lines (m : Master) (p : BayPort) : (s.setBay m p).lines = s.lines := rfl
@[simp] theorem setBay_bays (m : Master) (p : BayPort) : (s.setBay m p).bays = s.bays.set m p := rfl
@[simp] theorem setBay_rollTimer (m : Master) (p : BayPort) : (s.setBay m p).rollTimer = s.rollTimer := rfl
@[simp] theorem setBay_rollSeq (m : Master) (p : BayPort) : (s.setBay m p).rollSeq = s.rollSeq := rfl
@[simp] theorem setBay_quiet (m : Master) (p : BayPort) : (s.setBay m p).quiet = s.quiet := rfl
@[simp] theorem setBay_origins (m : Master) (p : BayPort) : (s.setBay m p).origins = s.origins := rfl
@[simp] theorem setBay_silentOrder (m : Master) (p : BayPort) : (s.setBay m p).silentOrder = s.silentOrder := rfl
@[simp] theorem setBay_groups (m : Master) (p : BayPort) : (s.setBay m p).groups = s.groups := rfl
@[simp] theorem setBay_globals (m : Master) (p : BayPort) : (s.setBay m p).globals = s.globals := rfl
@[simp] theorem setBay_bayCfg (m : Master) (p : BayPort) : (s.setBay m p).bayCfg = s.bayCfg := rfl
@[simp] theorem setBay_alert (m : Master) (p : BayPort) : (s.setBay m p).alert = s.alert := rfl
@[simp] theorem setBay_alertHold (m : Master) (p : BayPort) : (s.setBay m p).alertHold = s.alertHold := rfl
@[simp] theorem setBay_staging (m : Master) (p : BayPort) : (s.setBay m p).staging = s.staging := rfl
@[simp] theorem setBay_applyPending (m : Master) (p : BayPort) : (s.setBay m p).applyPending = s.applyPending := rfl
@[simp] theorem setBay_applyResult (m : Master) (p : BayPort) : (s.setBay m p).applyResult = s.applyResult := rfl
@[simp] theorem setBay_links (m : Master) (p : BayPort) : (s.setBay m p).links = s.links := rfl
@[simp] theorem setBay_set1 (m : Master) (p : BayPort) : (s.setBay m p).set1 = s.set1 := rfl
@[simp] theorem setBay_set2 (m : Master) (p : BayPort) : (s.setBay m p).set2 = s.set2 := rfl
@[simp] theorem setBay_startSet (m : Master) (p : BayPort) : (s.setBay m p).startSet = s.startSet := rfl
@[simp] theorem setBay_save (m : Master) (p : BayPort) : (s.setBay m p).save = s.save := rfl
@[simp] theorem setBay_saveResult (m : Master) (p : BayPort) : (s.setBay m p).saveResult = s.saveResult := rfl
@[simp] theorem setBay_restartArmed (m : Master) (p : BayPort) : (s.setBay m p).restartArmed = s.restartArmed := rfl
@[simp] theorem setBay_pending (m : Master) (p : BayPort) : (s.setBay m p).pending = s.pending := rfl

/-! ## `onBay` -/

@[simp] theorem onBay_station (m : Master) (f : BayPort → BayPort) : (s.onBay m f).station = s.station := rfl
@[simp] theorem onBay_revision (m : Master) (f : BayPort → BayPort) : (s.onBay m f).revision = s.revision := rfl
@[simp] theorem onBay_tick (m : Master) (f : BayPort → BayPort) : (s.onBay m f).tick = s.tick := rfl
@[simp] theorem onBay_seconds (m : Master) (f : BayPort → BayPort) : (s.onBay m f).seconds = s.seconds := rfl
@[simp] theorem onBay_restarts (m : Master) (f : BayPort → BayPort) : (s.onBay m f).restarts = s.restarts := rfl
@[simp] theorem onBay_ready (m : Master) (f : BayPort → BayPort) : (s.onBay m f).ready = s.ready := rfl
@[simp] theorem onBay_lines (m : Master) (f : BayPort → BayPort) : (s.onBay m f).lines = s.lines := rfl
@[simp] theorem onBay_bays (m : Master) (f : BayPort → BayPort) :
    (s.onBay m f).bays = s.bays.set m (f (s.bays.get m)) := rfl
@[simp] theorem onBay_rollTimer (m : Master) (f : BayPort → BayPort) : (s.onBay m f).rollTimer = s.rollTimer := rfl
@[simp] theorem onBay_rollSeq (m : Master) (f : BayPort → BayPort) : (s.onBay m f).rollSeq = s.rollSeq := rfl
@[simp] theorem onBay_quiet (m : Master) (f : BayPort → BayPort) : (s.onBay m f).quiet = s.quiet := rfl
@[simp] theorem onBay_origins (m : Master) (f : BayPort → BayPort) : (s.onBay m f).origins = s.origins := rfl
@[simp] theorem onBay_silentOrder (m : Master) (f : BayPort → BayPort) :
    (s.onBay m f).silentOrder = s.silentOrder := rfl
@[simp] theorem onBay_groups (m : Master) (f : BayPort → BayPort) : (s.onBay m f).groups = s.groups := rfl
@[simp] theorem onBay_globals (m : Master) (f : BayPort → BayPort) : (s.onBay m f).globals = s.globals := rfl
@[simp] theorem onBay_bayCfg (m : Master) (f : BayPort → BayPort) : (s.onBay m f).bayCfg = s.bayCfg := rfl
@[simp] theorem onBay_alert (m : Master) (f : BayPort → BayPort) : (s.onBay m f).alert = s.alert := rfl
@[simp] theorem onBay_alertHold (m : Master) (f : BayPort → BayPort) : (s.onBay m f).alertHold = s.alertHold := rfl
@[simp] theorem onBay_staging (m : Master) (f : BayPort → BayPort) : (s.onBay m f).staging = s.staging := rfl
@[simp] theorem onBay_applyPending (m : Master) (f : BayPort → BayPort) :
    (s.onBay m f).applyPending = s.applyPending := rfl
@[simp] theorem onBay_applyResult (m : Master) (f : BayPort → BayPort) :
    (s.onBay m f).applyResult = s.applyResult := rfl
@[simp] theorem onBay_links (m : Master) (f : BayPort → BayPort) : (s.onBay m f).links = s.links := rfl
@[simp] theorem onBay_set1 (m : Master) (f : BayPort → BayPort) : (s.onBay m f).set1 = s.set1 := rfl
@[simp] theorem onBay_set2 (m : Master) (f : BayPort → BayPort) : (s.onBay m f).set2 = s.set2 := rfl
@[simp] theorem onBay_startSet (m : Master) (f : BayPort → BayPort) : (s.onBay m f).startSet = s.startSet := rfl
@[simp] theorem onBay_save (m : Master) (f : BayPort → BayPort) : (s.onBay m f).save = s.save := rfl
@[simp] theorem onBay_saveResult (m : Master) (f : BayPort → BayPort) : (s.onBay m f).saveResult = s.saveResult := rfl
@[simp] theorem onBay_restartArmed (m : Master) (f : BayPort → BayPort) :
    (s.onBay m f).restartArmed = s.restartArmed := rfl
@[simp] theorem onBay_pending (m : Master) (f : BayPort → BayPort) : (s.onBay m f).pending = s.pending := rfl

/-! ## `countBay` -/

@[simp] theorem countBay_station (m : Master) (f : BayCounts → BayCounts) :
    (s.countBay m f).station = s.station := rfl
@[simp] theorem countBay_revision (m : Master) (f : BayCounts → BayCounts) :
    (s.countBay m f).revision = s.revision := rfl
@[simp] theorem countBay_tick (m : Master) (f : BayCounts → BayCounts) : (s.countBay m f).tick = s.tick := rfl
@[simp] theorem countBay_seconds (m : Master) (f : BayCounts → BayCounts) :
    (s.countBay m f).seconds = s.seconds := rfl
@[simp] theorem countBay_restarts (m : Master) (f : BayCounts → BayCounts) :
    (s.countBay m f).restarts = s.restarts := rfl
@[simp] theorem countBay_ready (m : Master) (f : BayCounts → BayCounts) : (s.countBay m f).ready = s.ready := rfl
@[simp] theorem countBay_lines (m : Master) (f : BayCounts → BayCounts) : (s.countBay m f).lines = s.lines := rfl
@[simp] theorem countBay_bays (m : Master) (f : BayCounts → BayCounts) :
    (s.countBay m f).bays = s.bays.set m { s.bays.get m with cnt := f (s.bays.get m).cnt } := rfl
@[simp] theorem countBay_rollTimer (m : Master) (f : BayCounts → BayCounts) :
    (s.countBay m f).rollTimer = s.rollTimer := rfl
@[simp] theorem countBay_rollSeq (m : Master) (f : BayCounts → BayCounts) :
    (s.countBay m f).rollSeq = s.rollSeq := rfl
@[simp] theorem countBay_quiet (m : Master) (f : BayCounts → BayCounts) : (s.countBay m f).quiet = s.quiet := rfl
@[simp] theorem countBay_origins (m : Master) (f : BayCounts → BayCounts) :
    (s.countBay m f).origins = s.origins := rfl
@[simp] theorem countBay_silentOrder (m : Master) (f : BayCounts → BayCounts) :
    (s.countBay m f).silentOrder = s.silentOrder := rfl
@[simp] theorem countBay_groups (m : Master) (f : BayCounts → BayCounts) : (s.countBay m f).groups = s.groups := rfl
@[simp] theorem countBay_globals (m : Master) (f : BayCounts → BayCounts) :
    (s.countBay m f).globals = s.globals := rfl
@[simp] theorem countBay_bayCfg (m : Master) (f : BayCounts → BayCounts) : (s.countBay m f).bayCfg = s.bayCfg := rfl
@[simp] theorem countBay_alert (m : Master) (f : BayCounts → BayCounts) : (s.countBay m f).alert = s.alert := rfl
@[simp] theorem countBay_alertHold (m : Master) (f : BayCounts → BayCounts) :
    (s.countBay m f).alertHold = s.alertHold := rfl
@[simp] theorem countBay_staging (m : Master) (f : BayCounts → BayCounts) :
    (s.countBay m f).staging = s.staging := rfl
@[simp] theorem countBay_applyPending (m : Master) (f : BayCounts → BayCounts) :
    (s.countBay m f).applyPending = s.applyPending := rfl
@[simp] theorem countBay_applyResult (m : Master) (f : BayCounts → BayCounts) :
    (s.countBay m f).applyResult = s.applyResult := rfl
@[simp] theorem countBay_links (m : Master) (f : BayCounts → BayCounts) : (s.countBay m f).links = s.links := rfl
@[simp] theorem countBay_set1 (m : Master) (f : BayCounts → BayCounts) : (s.countBay m f).set1 = s.set1 := rfl
@[simp] theorem countBay_set2 (m : Master) (f : BayCounts → BayCounts) : (s.countBay m f).set2 = s.set2 := rfl
@[simp] theorem countBay_startSet (m : Master) (f : BayCounts → BayCounts) :
    (s.countBay m f).startSet = s.startSet := rfl
@[simp] theorem countBay_save (m : Master) (f : BayCounts → BayCounts) : (s.countBay m f).save = s.save := rfl
@[simp] theorem countBay_saveResult (m : Master) (f : BayCounts → BayCounts) :
    (s.countBay m f).saveResult = s.saveResult := rfl
@[simp] theorem countBay_restartArmed (m : Master) (f : BayCounts → BayCounts) :
    (s.countBay m f).restartArmed = s.restartArmed := rfl
@[simp] theorem countBay_pending (m : Master) (f : BayCounts → BayCounts) :
    (s.countBay m f).pending = s.pending := rfl

/-! ## `offerLanes` -/

@[simp] theorem offerLanes_station (q : SeqNo) (c : TrafficClass) (d : List Byte) :
    (offerLanes q c d s).station = s.station := rfl
@[simp] theorem offerLanes_revision (q : SeqNo) (c : TrafficClass) (d : List Byte) :
    (offerLanes q c d s).revision = s.revision := rfl
@[simp] theorem offerLanes_tick (q : SeqNo) (c : TrafficClass) (d : List Byte) :
    (offerLanes q c d s).tick = s.tick := rfl
@[simp] theorem offerLanes_seconds (q : SeqNo) (c : TrafficClass) (d : List Byte) :
    (offerLanes q c d s).seconds = s.seconds := rfl
@[simp] theorem offerLanes_restarts (q : SeqNo) (c : TrafficClass) (d : List Byte) :
    (offerLanes q c d s).restarts = s.restarts := rfl
@[simp] theorem offerLanes_ready (q : SeqNo) (c : TrafficClass) (d : List Byte) :
    (offerLanes q c d s).ready = s.ready := rfl
@[simp] theorem offerLanes_lines (q : SeqNo) (c : TrafficClass) (d : List Byte) :
    (offerLanes q c d s).lines = ⟨s.lines.a.offer (laneCopy .a q c d), s.lines.b.offer (laneCopy .b q c d)⟩ := rfl
@[simp] theorem offerLanes_bays (q : SeqNo) (c : TrafficClass) (d : List Byte) :
    (offerLanes q c d s).bays = s.bays := rfl
@[simp] theorem offerLanes_rollTimer (q : SeqNo) (c : TrafficClass) (d : List Byte) :
    (offerLanes q c d s).rollTimer = s.rollTimer := rfl
@[simp] theorem offerLanes_rollSeq (q : SeqNo) (c : TrafficClass) (d : List Byte) :
    (offerLanes q c d s).rollSeq = s.rollSeq := rfl
@[simp] theorem offerLanes_quiet (q : SeqNo) (c : TrafficClass) (d : List Byte) :
    (offerLanes q c d s).quiet = s.quiet := rfl
@[simp] theorem offerLanes_origins (q : SeqNo) (c : TrafficClass) (d : List Byte) :
    (offerLanes q c d s).origins = s.origins := rfl
@[simp] theorem offerLanes_silentOrder (q : SeqNo) (c : TrafficClass) (d : List Byte) :
    (offerLanes q c d s).silentOrder = s.silentOrder := rfl
@[simp] theorem offerLanes_groups (q : SeqNo) (c : TrafficClass) (d : List Byte) :
    (offerLanes q c d s).groups = s.groups := rfl
@[simp] theorem offerLanes_globals (q : SeqNo) (c : TrafficClass) (d : List Byte) :
    (offerLanes q c d s).globals = s.globals := rfl
@[simp] theorem offerLanes_bayCfg (q : SeqNo) (c : TrafficClass) (d : List Byte) :
    (offerLanes q c d s).bayCfg = s.bayCfg := rfl
@[simp] theorem offerLanes_alert (q : SeqNo) (c : TrafficClass) (d : List Byte) :
    (offerLanes q c d s).alert = s.alert := rfl
@[simp] theorem offerLanes_alertHold (q : SeqNo) (c : TrafficClass) (d : List Byte) :
    (offerLanes q c d s).alertHold = s.alertHold := rfl
@[simp] theorem offerLanes_staging (q : SeqNo) (c : TrafficClass) (d : List Byte) :
    (offerLanes q c d s).staging = s.staging := rfl
@[simp] theorem offerLanes_applyPending (q : SeqNo) (c : TrafficClass) (d : List Byte) :
    (offerLanes q c d s).applyPending = s.applyPending := rfl
@[simp] theorem offerLanes_applyResult (q : SeqNo) (c : TrafficClass) (d : List Byte) :
    (offerLanes q c d s).applyResult = s.applyResult := rfl
@[simp] theorem offerLanes_links (q : SeqNo) (c : TrafficClass) (d : List Byte) :
    (offerLanes q c d s).links = s.links := rfl
@[simp] theorem offerLanes_set1 (q : SeqNo) (c : TrafficClass) (d : List Byte) :
    (offerLanes q c d s).set1 = s.set1 := rfl
@[simp] theorem offerLanes_set2 (q : SeqNo) (c : TrafficClass) (d : List Byte) :
    (offerLanes q c d s).set2 = s.set2 := rfl
@[simp] theorem offerLanes_startSet (q : SeqNo) (c : TrafficClass) (d : List Byte) :
    (offerLanes q c d s).startSet = s.startSet := rfl
@[simp] theorem offerLanes_save (q : SeqNo) (c : TrafficClass) (d : List Byte) :
    (offerLanes q c d s).save = s.save := rfl
@[simp] theorem offerLanes_saveResult (q : SeqNo) (c : TrafficClass) (d : List Byte) :
    (offerLanes q c d s).saveResult = s.saveResult := rfl
@[simp] theorem offerLanes_restartArmed (q : SeqNo) (c : TrafficClass) (d : List Byte) :
    (offerLanes q c d s).restartArmed = s.restartArmed := rfl
@[simp] theorem offerLanes_pending (q : SeqNo) (c : TrafficClass) (d : List Byte) :
    (offerLanes q c d s).pending = s.pending := rfl

/-! ## `setLink` -/

@[simp] theorem setLink_station (m : Master) (c : ControlLink) : (s.setLink m c).station = s.station := rfl
@[simp] theorem setLink_revision (m : Master) (c : ControlLink) : (s.setLink m c).revision = s.revision := rfl
@[simp] theorem setLink_tick (m : Master) (c : ControlLink) : (s.setLink m c).tick = s.tick := rfl
@[simp] theorem setLink_seconds (m : Master) (c : ControlLink) : (s.setLink m c).seconds = s.seconds := rfl
@[simp] theorem setLink_restarts (m : Master) (c : ControlLink) : (s.setLink m c).restarts = s.restarts := rfl
@[simp] theorem setLink_ready (m : Master) (c : ControlLink) : (s.setLink m c).ready = s.ready := rfl
@[simp] theorem setLink_lines (m : Master) (c : ControlLink) : (s.setLink m c).lines = s.lines := rfl
@[simp] theorem setLink_bays (m : Master) (c : ControlLink) : (s.setLink m c).bays = s.bays := rfl
@[simp] theorem setLink_rollTimer (m : Master) (c : ControlLink) : (s.setLink m c).rollTimer = s.rollTimer := rfl
@[simp] theorem setLink_rollSeq (m : Master) (c : ControlLink) : (s.setLink m c).rollSeq = s.rollSeq := rfl
@[simp] theorem setLink_quiet (m : Master) (c : ControlLink) : (s.setLink m c).quiet = s.quiet := rfl
@[simp] theorem setLink_origins (m : Master) (c : ControlLink) : (s.setLink m c).origins = s.origins := rfl
@[simp] theorem setLink_silentOrder (m : Master) (c : ControlLink) :
    (s.setLink m c).silentOrder = s.silentOrder := rfl
@[simp] theorem setLink_groups (m : Master) (c : ControlLink) : (s.setLink m c).groups = s.groups := rfl
@[simp] theorem setLink_globals (m : Master) (c : ControlLink) : (s.setLink m c).globals = s.globals := rfl
@[simp] theorem setLink_bayCfg (m : Master) (c : ControlLink) : (s.setLink m c).bayCfg = s.bayCfg := rfl
@[simp] theorem setLink_alert (m : Master) (c : ControlLink) : (s.setLink m c).alert = s.alert := rfl
@[simp] theorem setLink_alertHold (m : Master) (c : ControlLink) : (s.setLink m c).alertHold = s.alertHold := rfl
@[simp] theorem setLink_staging (m : Master) (c : ControlLink) : (s.setLink m c).staging = s.staging := rfl
@[simp] theorem setLink_applyPending (m : Master) (c : ControlLink) :
    (s.setLink m c).applyPending = s.applyPending := rfl
@[simp] theorem setLink_applyResult (m : Master) (c : ControlLink) :
    (s.setLink m c).applyResult = s.applyResult := rfl
@[simp] theorem setLink_links (m : Master) (c : ControlLink) : (s.setLink m c).links = s.links.set m c := rfl
@[simp] theorem setLink_set1 (m : Master) (c : ControlLink) : (s.setLink m c).set1 = s.set1 := rfl
@[simp] theorem setLink_set2 (m : Master) (c : ControlLink) : (s.setLink m c).set2 = s.set2 := rfl
@[simp] theorem setLink_startSet (m : Master) (c : ControlLink) : (s.setLink m c).startSet = s.startSet := rfl
@[simp] theorem setLink_save (m : Master) (c : ControlLink) : (s.setLink m c).save = s.save := rfl
@[simp] theorem setLink_saveResult (m : Master) (c : ControlLink) : (s.setLink m c).saveResult = s.saveResult := rfl
@[simp] theorem setLink_restartArmed (m : Master) (c : ControlLink) :
    (s.setLink m c).restartArmed = s.restartArmed := rfl
@[simp] theorem setLink_pending (m : Master) (c : ControlLink) : (s.setLink m c).pending = s.pending := rfl

/-! ## `onLink` -/

@[simp] theorem onLink_station (m : Master) (f : ControlLink → ControlLink) :
    (s.onLink m f).station = s.station := rfl
@[simp] theorem onLink_revision (m : Master) (f : ControlLink → ControlLink) :
    (s.onLink m f).revision = s.revision := rfl
@[simp] theorem onLink_tick (m : Master) (f : ControlLink → ControlLink) : (s.onLink m f).tick = s.tick := rfl
@[simp] theorem onLink_seconds (m : Master) (f : ControlLink → ControlLink) :
    (s.onLink m f).seconds = s.seconds := rfl
@[simp] theorem onLink_restarts (m : Master) (f : ControlLink → ControlLink) :
    (s.onLink m f).restarts = s.restarts := rfl
@[simp] theorem onLink_ready (m : Master) (f : ControlLink → ControlLink) : (s.onLink m f).ready = s.ready := rfl
@[simp] theorem onLink_lines (m : Master) (f : ControlLink → ControlLink) : (s.onLink m f).lines = s.lines := rfl
@[simp] theorem onLink_bays (m : Master) (f : ControlLink → ControlLink) : (s.onLink m f).bays = s.bays := rfl
@[simp] theorem onLink_rollTimer (m : Master) (f : ControlLink → ControlLink) :
    (s.onLink m f).rollTimer = s.rollTimer := rfl
@[simp] theorem onLink_rollSeq (m : Master) (f : ControlLink → ControlLink) :
    (s.onLink m f).rollSeq = s.rollSeq := rfl
@[simp] theorem onLink_quiet (m : Master) (f : ControlLink → ControlLink) : (s.onLink m f).quiet = s.quiet := rfl
@[simp] theorem onLink_origins (m : Master) (f : ControlLink → ControlLink) :
    (s.onLink m f).origins = s.origins := rfl
@[simp] theorem onLink_silentOrder (m : Master) (f : ControlLink → ControlLink) :
    (s.onLink m f).silentOrder = s.silentOrder := rfl
@[simp] theorem onLink_groups (m : Master) (f : ControlLink → ControlLink) : (s.onLink m f).groups = s.groups := rfl
@[simp] theorem onLink_globals (m : Master) (f : ControlLink → ControlLink) :
    (s.onLink m f).globals = s.globals := rfl
@[simp] theorem onLink_bayCfg (m : Master) (f : ControlLink → ControlLink) : (s.onLink m f).bayCfg = s.bayCfg := rfl
@[simp] theorem onLink_alert (m : Master) (f : ControlLink → ControlLink) : (s.onLink m f).alert = s.alert := rfl
@[simp] theorem onLink_alertHold (m : Master) (f : ControlLink → ControlLink) :
    (s.onLink m f).alertHold = s.alertHold := rfl
@[simp] theorem onLink_staging (m : Master) (f : ControlLink → ControlLink) :
    (s.onLink m f).staging = s.staging := rfl
@[simp] theorem onLink_applyPending (m : Master) (f : ControlLink → ControlLink) :
    (s.onLink m f).applyPending = s.applyPending := rfl
@[simp] theorem onLink_applyResult (m : Master) (f : ControlLink → ControlLink) :
    (s.onLink m f).applyResult = s.applyResult := rfl
@[simp] theorem onLink_links (m : Master) (f : ControlLink → ControlLink) :
    (s.onLink m f).links = s.links.set m (f (s.links.get m)) := rfl
@[simp] theorem onLink_set1 (m : Master) (f : ControlLink → ControlLink) : (s.onLink m f).set1 = s.set1 := rfl
@[simp] theorem onLink_set2 (m : Master) (f : ControlLink → ControlLink) : (s.onLink m f).set2 = s.set2 := rfl
@[simp] theorem onLink_startSet (m : Master) (f : ControlLink → ControlLink) :
    (s.onLink m f).startSet = s.startSet := rfl
@[simp] theorem onLink_save (m : Master) (f : ControlLink → ControlLink) : (s.onLink m f).save = s.save := rfl
@[simp] theorem onLink_saveResult (m : Master) (f : ControlLink → ControlLink) :
    (s.onLink m f).saveResult = s.saveResult := rfl
@[simp] theorem onLink_restartArmed (m : Master) (f : ControlLink → ControlLink) :
    (s.onLink m f).restartArmed = s.restartArmed := rfl
@[simp] theorem onLink_pending (m : Master) (f : ControlLink → ControlLink) :
    (s.onLink m f).pending = s.pending := rfl

/-! ## `onLinks` -/

@[simp] theorem onLinks_station (f : ControlLink → ControlLink) : (s.onLinks f).station = s.station := rfl
@[simp] theorem onLinks_revision (f : ControlLink → ControlLink) : (s.onLinks f).revision = s.revision := rfl
@[simp] theorem onLinks_tick (f : ControlLink → ControlLink) : (s.onLinks f).tick = s.tick := rfl
@[simp] theorem onLinks_seconds (f : ControlLink → ControlLink) : (s.onLinks f).seconds = s.seconds := rfl
@[simp] theorem onLinks_restarts (f : ControlLink → ControlLink) : (s.onLinks f).restarts = s.restarts := rfl
@[simp] theorem onLinks_ready (f : ControlLink → ControlLink) : (s.onLinks f).ready = s.ready := rfl
@[simp] theorem onLinks_lines (f : ControlLink → ControlLink) : (s.onLinks f).lines = s.lines := rfl
@[simp] theorem onLinks_bays (f : ControlLink → ControlLink) : (s.onLinks f).bays = s.bays := rfl
@[simp] theorem onLinks_rollTimer (f : ControlLink → ControlLink) : (s.onLinks f).rollTimer = s.rollTimer := rfl
@[simp] theorem onLinks_rollSeq (f : ControlLink → ControlLink) : (s.onLinks f).rollSeq = s.rollSeq := rfl
@[simp] theorem onLinks_quiet (f : ControlLink → ControlLink) : (s.onLinks f).quiet = s.quiet := rfl
@[simp] theorem onLinks_origins (f : ControlLink → ControlLink) : (s.onLinks f).origins = s.origins := rfl
@[simp] theorem onLinks_silentOrder (f : ControlLink → ControlLink) : (s.onLinks f).silentOrder = s.silentOrder := rfl
@[simp] theorem onLinks_groups (f : ControlLink → ControlLink) : (s.onLinks f).groups = s.groups := rfl
@[simp] theorem onLinks_globals (f : ControlLink → ControlLink) : (s.onLinks f).globals = s.globals := rfl
@[simp] theorem onLinks_bayCfg (f : ControlLink → ControlLink) : (s.onLinks f).bayCfg = s.bayCfg := rfl
@[simp] theorem onLinks_alert (f : ControlLink → ControlLink) : (s.onLinks f).alert = s.alert := rfl
@[simp] theorem onLinks_alertHold (f : ControlLink → ControlLink) : (s.onLinks f).alertHold = s.alertHold := rfl
@[simp] theorem onLinks_staging (f : ControlLink → ControlLink) : (s.onLinks f).staging = s.staging := rfl
@[simp] theorem onLinks_applyPending (f : ControlLink → ControlLink) :
    (s.onLinks f).applyPending = s.applyPending := rfl
@[simp] theorem onLinks_applyResult (f : ControlLink → ControlLink) : (s.onLinks f).applyResult = s.applyResult := rfl
@[simp] theorem onLinks_links (f : ControlLink → ControlLink) :
    (s.onLinks f).links = ⟨f s.links.one, f s.links.two⟩ := rfl
@[simp] theorem onLinks_set1 (f : ControlLink → ControlLink) : (s.onLinks f).set1 = s.set1 := rfl
@[simp] theorem onLinks_set2 (f : ControlLink → ControlLink) : (s.onLinks f).set2 = s.set2 := rfl
@[simp] theorem onLinks_startSet (f : ControlLink → ControlLink) : (s.onLinks f).startSet = s.startSet := rfl
@[simp] theorem onLinks_save (f : ControlLink → ControlLink) : (s.onLinks f).save = s.save := rfl
@[simp] theorem onLinks_saveResult (f : ControlLink → ControlLink) : (s.onLinks f).saveResult = s.saveResult := rfl
@[simp] theorem onLinks_restartArmed (f : ControlLink → ControlLink) :
    (s.onLinks f).restartArmed = s.restartArmed := rfl
@[simp] theorem onLinks_pending (f : ControlLink → ControlLink) : (s.onLinks f).pending = s.pending := rfl

/-! ## `raiseFor` -/

@[simp] theorem raiseFor_station (m : Master) (k : EventKind) : (raiseFor m k s).station = s.station := rfl
@[simp] theorem raiseFor_revision (m : Master) (k : EventKind) : (raiseFor m k s).revision = s.revision := rfl
@[simp] theorem raiseFor_tick (m : Master) (k : EventKind) : (raiseFor m k s).tick = s.tick := rfl
@[simp] theorem raiseFor_seconds (m : Master) (k : EventKind) : (raiseFor m k s).seconds = s.seconds := rfl
@[simp] theorem raiseFor_restarts (m : Master) (k : EventKind) : (raiseFor m k s).restarts = s.restarts := rfl
@[simp] theorem raiseFor_ready (m : Master) (k : EventKind) : (raiseFor m k s).ready = s.ready := rfl
@[simp] theorem raiseFor_lines (m : Master) (k : EventKind) : (raiseFor m k s).lines = s.lines := rfl
@[simp] theorem raiseFor_bays (m : Master) (k : EventKind) : (raiseFor m k s).bays = s.bays := rfl
@[simp] theorem raiseFor_rollTimer (m : Master) (k : EventKind) : (raiseFor m k s).rollTimer = s.rollTimer := rfl
@[simp] theorem raiseFor_rollSeq (m : Master) (k : EventKind) : (raiseFor m k s).rollSeq = s.rollSeq := rfl
@[simp] theorem raiseFor_quiet (m : Master) (k : EventKind) : (raiseFor m k s).quiet = s.quiet := rfl
@[simp] theorem raiseFor_origins (m : Master) (k : EventKind) : (raiseFor m k s).origins = s.origins := rfl
@[simp] theorem raiseFor_silentOrder (m : Master) (k : EventKind) :
    (raiseFor m k s).silentOrder = s.silentOrder := rfl
@[simp] theorem raiseFor_groups (m : Master) (k : EventKind) : (raiseFor m k s).groups = s.groups := rfl
@[simp] theorem raiseFor_globals (m : Master) (k : EventKind) : (raiseFor m k s).globals = s.globals := rfl
@[simp] theorem raiseFor_bayCfg (m : Master) (k : EventKind) : (raiseFor m k s).bayCfg = s.bayCfg := rfl
@[simp] theorem raiseFor_alert (m : Master) (k : EventKind) : (raiseFor m k s).alert = s.alert := rfl
@[simp] theorem raiseFor_alertHold (m : Master) (k : EventKind) : (raiseFor m k s).alertHold = s.alertHold := rfl
@[simp] theorem raiseFor_staging (m : Master) (k : EventKind) : (raiseFor m k s).staging = s.staging := rfl
@[simp] theorem raiseFor_applyPending (m : Master) (k : EventKind) :
    (raiseFor m k s).applyPending = s.applyPending := rfl
@[simp] theorem raiseFor_applyResult (m : Master) (k : EventKind) :
    (raiseFor m k s).applyResult = s.applyResult := rfl
@[simp] theorem raiseFor_links (m : Master) (k : EventKind) :
    (raiseFor m k s).links = s.links.set m ((s.links.get m).raise k) := rfl
@[simp] theorem raiseFor_set1 (m : Master) (k : EventKind) : (raiseFor m k s).set1 = s.set1 := rfl
@[simp] theorem raiseFor_set2 (m : Master) (k : EventKind) : (raiseFor m k s).set2 = s.set2 := rfl
@[simp] theorem raiseFor_startSet (m : Master) (k : EventKind) : (raiseFor m k s).startSet = s.startSet := rfl
@[simp] theorem raiseFor_save (m : Master) (k : EventKind) : (raiseFor m k s).save = s.save := rfl
@[simp] theorem raiseFor_saveResult (m : Master) (k : EventKind) : (raiseFor m k s).saveResult = s.saveResult := rfl
@[simp] theorem raiseFor_restartArmed (m : Master) (k : EventKind) :
    (raiseFor m k s).restartArmed = s.restartArmed := rfl
@[simp] theorem raiseFor_pending (m : Master) (k : EventKind) : (raiseFor m k s).pending = s.pending := rfl

/-! ## `raiseBoth` -/

@[simp] theorem raiseBoth_station (k : EventKind) : (raiseBoth k s).station = s.station := rfl
@[simp] theorem raiseBoth_revision (k : EventKind) : (raiseBoth k s).revision = s.revision := rfl
@[simp] theorem raiseBoth_tick (k : EventKind) : (raiseBoth k s).tick = s.tick := rfl
@[simp] theorem raiseBoth_seconds (k : EventKind) : (raiseBoth k s).seconds = s.seconds := rfl
@[simp] theorem raiseBoth_restarts (k : EventKind) : (raiseBoth k s).restarts = s.restarts := rfl
@[simp] theorem raiseBoth_ready (k : EventKind) : (raiseBoth k s).ready = s.ready := rfl
@[simp] theorem raiseBoth_lines (k : EventKind) : (raiseBoth k s).lines = s.lines := rfl
@[simp] theorem raiseBoth_bays (k : EventKind) : (raiseBoth k s).bays = s.bays := rfl
@[simp] theorem raiseBoth_rollTimer (k : EventKind) : (raiseBoth k s).rollTimer = s.rollTimer := rfl
@[simp] theorem raiseBoth_rollSeq (k : EventKind) : (raiseBoth k s).rollSeq = s.rollSeq := rfl
@[simp] theorem raiseBoth_quiet (k : EventKind) : (raiseBoth k s).quiet = s.quiet := rfl
@[simp] theorem raiseBoth_origins (k : EventKind) : (raiseBoth k s).origins = s.origins := rfl
@[simp] theorem raiseBoth_silentOrder (k : EventKind) : (raiseBoth k s).silentOrder = s.silentOrder := rfl
@[simp] theorem raiseBoth_groups (k : EventKind) : (raiseBoth k s).groups = s.groups := rfl
@[simp] theorem raiseBoth_globals (k : EventKind) : (raiseBoth k s).globals = s.globals := rfl
@[simp] theorem raiseBoth_bayCfg (k : EventKind) : (raiseBoth k s).bayCfg = s.bayCfg := rfl
@[simp] theorem raiseBoth_alert (k : EventKind) : (raiseBoth k s).alert = s.alert := rfl
@[simp] theorem raiseBoth_alertHold (k : EventKind) : (raiseBoth k s).alertHold = s.alertHold := rfl
@[simp] theorem raiseBoth_staging (k : EventKind) : (raiseBoth k s).staging = s.staging := rfl
@[simp] theorem raiseBoth_applyPending (k : EventKind) : (raiseBoth k s).applyPending = s.applyPending := rfl
@[simp] theorem raiseBoth_applyResult (k : EventKind) : (raiseBoth k s).applyResult = s.applyResult := rfl
@[simp] theorem raiseBoth_links (k : EventKind) :
    (raiseBoth k s).links = ⟨s.links.one.raise k, s.links.two.raise k⟩ := rfl
@[simp] theorem raiseBoth_set1 (k : EventKind) : (raiseBoth k s).set1 = s.set1 := rfl
@[simp] theorem raiseBoth_set2 (k : EventKind) : (raiseBoth k s).set2 = s.set2 := rfl
@[simp] theorem raiseBoth_startSet (k : EventKind) : (raiseBoth k s).startSet = s.startSet := rfl
@[simp] theorem raiseBoth_save (k : EventKind) : (raiseBoth k s).save = s.save := rfl
@[simp] theorem raiseBoth_saveResult (k : EventKind) : (raiseBoth k s).saveResult = s.saveResult := rfl
@[simp] theorem raiseBoth_restartArmed (k : EventKind) : (raiseBoth k s).restartArmed = s.restartArmed := rfl
@[simp] theorem raiseBoth_pending (k : EventKind) : (raiseBoth k s).pending = s.pending := rfl

/-! ## `markChange` -/

@[simp] theorem markChange_station (i : Nat) : (markChange i s).station = s.station := rfl
@[simp] theorem markChange_revision (i : Nat) : (markChange i s).revision = s.revision := rfl
@[simp] theorem markChange_tick (i : Nat) : (markChange i s).tick = s.tick := rfl
@[simp] theorem markChange_seconds (i : Nat) : (markChange i s).seconds = s.seconds := rfl
@[simp] theorem markChange_restarts (i : Nat) : (markChange i s).restarts = s.restarts := rfl
@[simp] theorem markChange_ready (i : Nat) : (markChange i s).ready = s.ready := rfl
@[simp] theorem markChange_lines (i : Nat) : (markChange i s).lines = s.lines := rfl
@[simp] theorem markChange_bays (i : Nat) : (markChange i s).bays = s.bays := rfl
@[simp] theorem markChange_rollTimer (i : Nat) : (markChange i s).rollTimer = s.rollTimer := rfl
@[simp] theorem markChange_rollSeq (i : Nat) : (markChange i s).rollSeq = s.rollSeq := rfl
@[simp] theorem markChange_quiet (i : Nat) : (markChange i s).quiet = s.quiet := rfl
@[simp] theorem markChange_origins (i : Nat) : (markChange i s).origins = s.origins := rfl
@[simp] theorem markChange_silentOrder (i : Nat) : (markChange i s).silentOrder = s.silentOrder := rfl
@[simp] theorem markChange_groups (i : Nat) : (markChange i s).groups = s.groups := rfl
@[simp] theorem markChange_globals (i : Nat) : (markChange i s).globals = s.globals := rfl
@[simp] theorem markChange_bayCfg (i : Nat) : (markChange i s).bayCfg = s.bayCfg := rfl
@[simp] theorem markChange_alert (i : Nat) : (markChange i s).alert = s.alert := rfl
@[simp] theorem markChange_alertHold (i : Nat) : (markChange i s).alertHold = s.alertHold := rfl
@[simp] theorem markChange_staging (i : Nat) : (markChange i s).staging = s.staging := rfl
@[simp] theorem markChange_applyPending (i : Nat) : (markChange i s).applyPending = s.applyPending := rfl
@[simp] theorem markChange_applyResult (i : Nat) : (markChange i s).applyResult = s.applyResult := rfl
@[simp] theorem markChange_links (i : Nat) :
    (markChange i s).links =
      ⟨(s.links.one.addChange i).raise .originChange, (s.links.two.addChange i).raise .originChange⟩ := rfl
@[simp] theorem markChange_set1 (i : Nat) : (markChange i s).set1 = s.set1 := rfl
@[simp] theorem markChange_set2 (i : Nat) : (markChange i s).set2 = s.set2 := rfl
@[simp] theorem markChange_startSet (i : Nat) : (markChange i s).startSet = s.startSet := rfl
@[simp] theorem markChange_save (i : Nat) : (markChange i s).save = s.save := rfl
@[simp] theorem markChange_saveResult (i : Nat) : (markChange i s).saveResult = s.saveResult := rfl
@[simp] theorem markChange_restartArmed (i : Nat) : (markChange i s).restartArmed = s.restartArmed := rfl
@[simp] theorem markChange_pending (i : Nat) : (markChange i s).pending = s.pending := rfl

/-! ## `reply` -/

@[simp] theorem reply_station (m : Master) (st : Status) (r : List Byte) : (reply m st r s).station = s.station := rfl
@[simp] theorem reply_revision (m : Master) (st : Status) (r : List Byte) :
    (reply m st r s).revision = s.revision := rfl
@[simp] theorem reply_tick (m : Master) (st : Status) (r : List Byte) : (reply m st r s).tick = s.tick := rfl
@[simp] theorem reply_seconds (m : Master) (st : Status) (r : List Byte) : (reply m st r s).seconds = s.seconds := rfl
@[simp] theorem reply_restarts (m : Master) (st : Status) (r : List Byte) :
    (reply m st r s).restarts = s.restarts := rfl
@[simp] theorem reply_ready (m : Master) (st : Status) (r : List Byte) : (reply m st r s).ready = s.ready := rfl
@[simp] theorem reply_lines (m : Master) (st : Status) (r : List Byte) : (reply m st r s).lines = s.lines := rfl
@[simp] theorem reply_bays (m : Master) (st : Status) (r : List Byte) : (reply m st r s).bays = s.bays := rfl
@[simp] theorem reply_rollTimer (m : Master) (st : Status) (r : List Byte) :
    (reply m st r s).rollTimer = s.rollTimer := rfl
@[simp] theorem reply_rollSeq (m : Master) (st : Status) (r : List Byte) : (reply m st r s).rollSeq = s.rollSeq := rfl
@[simp] theorem reply_quiet (m : Master) (st : Status) (r : List Byte) : (reply m st r s).quiet = s.quiet := rfl
@[simp] theorem reply_origins (m : Master) (st : Status) (r : List Byte) : (reply m st r s).origins = s.origins := rfl
@[simp] theorem reply_silentOrder (m : Master) (st : Status) (r : List Byte) :
    (reply m st r s).silentOrder = s.silentOrder := rfl
@[simp] theorem reply_groups (m : Master) (st : Status) (r : List Byte) : (reply m st r s).groups = s.groups := rfl
@[simp] theorem reply_globals (m : Master) (st : Status) (r : List Byte) : (reply m st r s).globals = s.globals := rfl
@[simp] theorem reply_bayCfg (m : Master) (st : Status) (r : List Byte) : (reply m st r s).bayCfg = s.bayCfg := rfl
@[simp] theorem reply_alert (m : Master) (st : Status) (r : List Byte) : (reply m st r s).alert = s.alert := rfl
@[simp] theorem reply_alertHold (m : Master) (st : Status) (r : List Byte) :
    (reply m st r s).alertHold = s.alertHold := rfl
@[simp] theorem reply_staging (m : Master) (st : Status) (r : List Byte) : (reply m st r s).staging = s.staging := rfl
@[simp] theorem reply_applyPending (m : Master) (st : Status) (r : List Byte) :
    (reply m st r s).applyPending = s.applyPending := rfl
@[simp] theorem reply_applyResult (m : Master) (st : Status) (r : List Byte) :
    (reply m st r s).applyResult = s.applyResult := rfl
@[simp] theorem reply_links (m : Master) (st : Status) (r : List Byte) :
    (reply m st r s).links =
      s.links.set m { s.links.get m with framing := .answering, answer := some ⟨st, if st = .ok then r else []⟩ } := rfl
@[simp] theorem reply_set1 (m : Master) (st : Status) (r : List Byte) : (reply m st r s).set1 = s.set1 := rfl
@[simp] theorem reply_set2 (m : Master) (st : Status) (r : List Byte) : (reply m st r s).set2 = s.set2 := rfl
@[simp] theorem reply_startSet (m : Master) (st : Status) (r : List Byte) :
    (reply m st r s).startSet = s.startSet := rfl
@[simp] theorem reply_save (m : Master) (st : Status) (r : List Byte) : (reply m st r s).save = s.save := rfl
@[simp] theorem reply_saveResult (m : Master) (st : Status) (r : List Byte) :
    (reply m st r s).saveResult = s.saveResult := rfl
@[simp] theorem reply_restartArmed (m : Master) (st : Status) (r : List Byte) :
    (reply m st r s).restartArmed = s.restartArmed := rfl
@[simp] theorem reply_pending (m : Master) (st : Status) (r : List Byte) : (reply m st r s).pending = s.pending := rfl

/-! ## `setOrigin` -/

@[simp] theorem setOrigin_station (i : Nat) (r : Origin) : (s.setOrigin i r).station = s.station := rfl
@[simp] theorem setOrigin_revision (i : Nat) (r : Origin) : (s.setOrigin i r).revision = s.revision := rfl
@[simp] theorem setOrigin_tick (i : Nat) (r : Origin) : (s.setOrigin i r).tick = s.tick := rfl
@[simp] theorem setOrigin_seconds (i : Nat) (r : Origin) : (s.setOrigin i r).seconds = s.seconds := rfl
@[simp] theorem setOrigin_restarts (i : Nat) (r : Origin) : (s.setOrigin i r).restarts = s.restarts := rfl
@[simp] theorem setOrigin_ready (i : Nat) (r : Origin) : (s.setOrigin i r).ready = s.ready := rfl
@[simp] theorem setOrigin_lines (i : Nat) (r : Origin) : (s.setOrigin i r).lines = s.lines := rfl
@[simp] theorem setOrigin_bays (i : Nat) (r : Origin) : (s.setOrigin i r).bays = s.bays := rfl
@[simp] theorem setOrigin_rollTimer (i : Nat) (r : Origin) : (s.setOrigin i r).rollTimer = s.rollTimer := rfl
@[simp] theorem setOrigin_rollSeq (i : Nat) (r : Origin) : (s.setOrigin i r).rollSeq = s.rollSeq := rfl
@[simp] theorem setOrigin_quiet (i : Nat) (r : Origin) : (s.setOrigin i r).quiet = s.quiet := rfl
@[simp] theorem setOrigin_origins (i : Nat) (r : Origin) : (s.setOrigin i r).origins = tabPut s.origins i r := rfl
@[simp] theorem setOrigin_silentOrder (i : Nat) (r : Origin) : (s.setOrigin i r).silentOrder = s.silentOrder := rfl
@[simp] theorem setOrigin_groups (i : Nat) (r : Origin) : (s.setOrigin i r).groups = s.groups := rfl
@[simp] theorem setOrigin_globals (i : Nat) (r : Origin) : (s.setOrigin i r).globals = s.globals := rfl
@[simp] theorem setOrigin_bayCfg (i : Nat) (r : Origin) : (s.setOrigin i r).bayCfg = s.bayCfg := rfl
@[simp] theorem setOrigin_alert (i : Nat) (r : Origin) : (s.setOrigin i r).alert = s.alert := rfl
@[simp] theorem setOrigin_alertHold (i : Nat) (r : Origin) : (s.setOrigin i r).alertHold = s.alertHold := rfl
@[simp] theorem setOrigin_staging (i : Nat) (r : Origin) : (s.setOrigin i r).staging = s.staging := rfl
@[simp] theorem setOrigin_applyPending (i : Nat) (r : Origin) : (s.setOrigin i r).applyPending = s.applyPending := rfl
@[simp] theorem setOrigin_applyResult (i : Nat) (r : Origin) : (s.setOrigin i r).applyResult = s.applyResult := rfl
@[simp] theorem setOrigin_links (i : Nat) (r : Origin) : (s.setOrigin i r).links = s.links := rfl
@[simp] theorem setOrigin_set1 (i : Nat) (r : Origin) : (s.setOrigin i r).set1 = s.set1 := rfl
@[simp] theorem setOrigin_set2 (i : Nat) (r : Origin) : (s.setOrigin i r).set2 = s.set2 := rfl
@[simp] theorem setOrigin_startSet (i : Nat) (r : Origin) : (s.setOrigin i r).startSet = s.startSet := rfl
@[simp] theorem setOrigin_save (i : Nat) (r : Origin) : (s.setOrigin i r).save = s.save := rfl
@[simp] theorem setOrigin_saveResult (i : Nat) (r : Origin) : (s.setOrigin i r).saveResult = s.saveResult := rfl
@[simp] theorem setOrigin_restartArmed (i : Nat) (r : Origin) : (s.setOrigin i r).restartArmed = s.restartArmed := rfl
@[simp] theorem setOrigin_pending (i : Nat) (r : Origin) : (s.setOrigin i r).pending = s.pending := rfl

/-! ## `setUserSet` -/

@[simp] theorem setUserSet_station (u : UserSlot) (x : UserSet) : (s.setUserSet u x).station = s.station := by
  cases u <;> rfl
@[simp] theorem setUserSet_revision (u : UserSlot) (x : UserSet) : (s.setUserSet u x).revision = s.revision := by
  cases u <;> rfl
@[simp] theorem setUserSet_tick (u : UserSlot) (x : UserSet) : (s.setUserSet u x).tick = s.tick := by
  cases u <;> rfl
@[simp] theorem setUserSet_seconds (u : UserSlot) (x : UserSet) : (s.setUserSet u x).seconds = s.seconds := by
  cases u <;> rfl
@[simp] theorem setUserSet_restarts (u : UserSlot) (x : UserSet) : (s.setUserSet u x).restarts = s.restarts := by
  cases u <;> rfl
@[simp] theorem setUserSet_ready (u : UserSlot) (x : UserSet) : (s.setUserSet u x).ready = s.ready := by
  cases u <;> rfl
@[simp] theorem setUserSet_lines (u : UserSlot) (x : UserSet) : (s.setUserSet u x).lines = s.lines := by
  cases u <;> rfl
@[simp] theorem setUserSet_bays (u : UserSlot) (x : UserSet) : (s.setUserSet u x).bays = s.bays := by
  cases u <;> rfl
@[simp] theorem setUserSet_rollTimer (u : UserSlot) (x : UserSet) : (s.setUserSet u x).rollTimer = s.rollTimer := by
  cases u <;> rfl
@[simp] theorem setUserSet_rollSeq (u : UserSlot) (x : UserSet) : (s.setUserSet u x).rollSeq = s.rollSeq := by
  cases u <;> rfl
@[simp] theorem setUserSet_quiet (u : UserSlot) (x : UserSet) : (s.setUserSet u x).quiet = s.quiet := by
  cases u <;> rfl
@[simp] theorem setUserSet_origins (u : UserSlot) (x : UserSet) : (s.setUserSet u x).origins = s.origins := by
  cases u <;> rfl
@[simp] theorem setUserSet_silentOrder (u : UserSlot) (x : UserSet) : (s.setUserSet u x).silentOrder = s.silentOrder := by
  cases u <;> rfl
@[simp] theorem setUserSet_groups (u : UserSlot) (x : UserSet) : (s.setUserSet u x).groups = s.groups := by
  cases u <;> rfl
@[simp] theorem setUserSet_globals (u : UserSlot) (x : UserSet) : (s.setUserSet u x).globals = s.globals := by
  cases u <;> rfl
@[simp] theorem setUserSet_bayCfg (u : UserSlot) (x : UserSet) : (s.setUserSet u x).bayCfg = s.bayCfg := by
  cases u <;> rfl
@[simp] theorem setUserSet_alert (u : UserSlot) (x : UserSet) : (s.setUserSet u x).alert = s.alert := by
  cases u <;> rfl
@[simp] theorem setUserSet_alertHold (u : UserSlot) (x : UserSet) : (s.setUserSet u x).alertHold = s.alertHold := by
  cases u <;> rfl
@[simp] theorem setUserSet_staging (u : UserSlot) (x : UserSet) : (s.setUserSet u x).staging = s.staging := by
  cases u <;> rfl
@[simp] theorem setUserSet_applyPending (u : UserSlot) (x : UserSet) : (s.setUserSet u x).applyPending = s.applyPending := by
  cases u <;> rfl
@[simp] theorem setUserSet_applyResult (u : UserSlot) (x : UserSet) : (s.setUserSet u x).applyResult = s.applyResult := by
  cases u <;> rfl
@[simp] theorem setUserSet_links (u : UserSlot) (x : UserSet) : (s.setUserSet u x).links = s.links := by
  cases u <;> rfl
@[simp] theorem setUserSet_startSet (u : UserSlot) (x : UserSet) : (s.setUserSet u x).startSet = s.startSet := by
  cases u <;> rfl
@[simp] theorem setUserSet_save (u : UserSlot) (x : UserSet) : (s.setUserSet u x).save = s.save := by
  cases u <;> rfl
@[simp] theorem setUserSet_saveResult (u : UserSlot) (x : UserSet) : (s.setUserSet u x).saveResult = s.saveResult := by
  cases u <;> rfl
@[simp] theorem setUserSet_restartArmed (u : UserSlot) (x : UserSet) : (s.setUserSet u x).restartArmed = s.restartArmed := by
  cases u <;> rfl
@[simp] theorem setUserSet_pending (u : UserSlot) (x : UserSet) : (s.setUserSet u x).pending = s.pending := by
  cases u <;> rfl
@[simp] theorem setUserSet_userSet (u : UserSlot) (x : UserSet) : (s.setUserSet u x).userSet u = x := by
  cases u <;> rfl

/-! ## Fields by lane and by master -/

@[simp] theorem PerLane.get_set {α : Type} (x : PerLane α) (l : Lane) (v : α) : (x.set l v).get l = v := by
  cases l <;> rfl
@[simp] theorem PerLane.get_set_other {α : Type} (x : PerLane α) (l : Lane) (v : α) :
    (x.set l v).get (otherLane l) = x.get (otherLane l) := by
  cases l <;> rfl
@[simp] theorem PerLane.set_get {α : Type} (x : PerLane α) (l : Lane) : x.set l (x.get l) = x := by
  cases l <;> rfl
@[simp] theorem PerLane.set_set {α : Type} (x : PerLane α) (l : Lane) (v w : α) : (x.set l v).set l w = x.set l w := by
  cases l <;> rfl
theorem PerLane.get_set_eq {α : Type} (x : PerLane α) (l k : Lane) (v : α) :
    (x.set l v).get k = if k = l then v else x.get k := by
  cases l <;> cases k <;> rfl
@[simp] theorem PerMaster.get_set {α : Type} (x : PerMaster α) (m : Master) (v : α) : (x.set m v).get m = v := by
  cases m <;> rfl
@[simp] theorem PerMaster.get_set_other {α : Type} (x : PerMaster α) (m : Master) (v : α) :
    (x.set m v).get (otherMaster m) = x.get (otherMaster m) := by
  cases m <;> rfl
@[simp] theorem PerMaster.set_get {α : Type} (x : PerMaster α) (m : Master) : x.set m (x.get m) = x := by
  cases m <;> rfl
@[simp] theorem PerMaster.set_set {α : Type} (x : PerMaster α) (m : Master) (v w : α) :
    (x.set m v).set m w = x.set m w := by
  cases m <;> rfl
theorem PerMaster.get_set_eq {α : Type} (x : PerMaster α) (m k : Master) (v : α) :
    (x.set m v).get k = if k = m then v else x.get k := by
  cases m <;> cases k <;> rfl
@[simp] theorem otherLane_otherLane (l : Lane) : otherLane (otherLane l) = l := by cases l <;> rfl
@[simp] theorem otherMaster_otherMaster (m : Master) : otherMaster (otherMaster m) = m := by cases m <;> rfl
theorem otherLane_ne (l : Lane) : otherLane l ≠ l := by cases l <;> decide
theorem otherMaster_ne (m : Master) : otherMaster m ≠ m := by cases m <;> decide

/-! ## The update lemmas of a control link -/

@[simp] theorem ControlLink.raise_framing (k : EventKind) (c : ControlLink) : (c.raise k).framing = c.framing := rfl
@[simp] theorem ControlLink.raise_mask (k : EventKind) (c : ControlLink) : (c.raise k).mask = c.mask := rfl
@[simp] theorem ControlLink.raise_changes (k : EventKind) (c : ControlLink) : (c.raise k).changes = c.changes := rfl
@[simp] theorem ControlLink.raise_cut (k : EventKind) (c : ControlLink) : (c.raise k).cut = c.cut := rfl
@[simp] theorem ControlLink.raise_answer (k : EventKind) (c : ControlLink) : (c.raise k).answer = c.answer := rfl
@[simp] theorem ControlLink.raise_flags (k : EventKind) (c : ControlLink) :
    (c.raise k).flags = c.flags ||| k.bit := rfl
@[simp] theorem ControlLink.addChange_framing (i : Nat) (c : ControlLink) :
    (c.addChange i).framing = c.framing := rfl
@[simp] theorem ControlLink.addChange_flags (i : Nat) (c : ControlLink) : (c.addChange i).flags = c.flags := rfl
@[simp] theorem ControlLink.addChange_mask (i : Nat) (c : ControlLink) : (c.addChange i).mask = c.mask := rfl
@[simp] theorem ControlLink.addChange_cut (i : Nat) (c : ControlLink) : (c.addChange i).cut = c.cut := rfl
@[simp] theorem ControlLink.addChange_answer (i : Nat) (c : ControlLink) : (c.addChange i).answer = c.answer := rfl
@[simp] theorem ControlLink.addChange_changes (i : Nat) (c : ControlLink) :
    (c.addChange i).changes = setInsert i c.changes := rfl

end Sys2Proof.Machine
end

