-- ==== Sys2Proof/Laws/Frame.lean ====
section
/-! SUPPORT. What each shared operation can change, said once: the state after it is the state before it with the
fields named replaced. -/

namespace Sys2Proof.Machine

set_option Elab.async false

variable (s : State)

/-! ## Control-link commands -/

theorem reply_frame (m : Master) (st : Status) (r : List Byte) : ∃ k, reply m st r s = { s with links := k } :=
  ⟨_, rfl⟩

/-- Everything R161 lets a command do before its own part. -/
theorem takeCommand_cases (m : Master) (x : Args) (own : List Byte → State) :
    takeCommand m x s own = reply m .badLength [] s ∨
    (takeCommand m x s own = reply m .busy [] s ∧ s.ready = false) ∨
    ∃ bytes, x = .taken bytes ∧ bytes.length ≤ 64 ∧ s.ready = true ∧ takeCommand m x s own = own bytes := by
  cases x with
  | overlong n => exact .inl rfl
  | taken bytes =>
    simp only [takeCommand]
    split
    · exact .inl rfl
    · split
      · rename_i h; exact .inr (.inl ⟨rfl, h⟩)
      · rename_i h1 h2
        exact .inr (.inr ⟨bytes, rfl, by simpa [Config.maxArgs] using h1, by simpa using h2, rfl⟩)

/-- Everything R161 lets a command with `n` argument bytes do before its own part. -/
theorem takeFixed_cases (m : Master) (n : Nat) (x : Args) (own : List Byte → State) :
    takeFixed m n x s own = reply m .badLength [] s ∨
    (takeFixed m n x s own = reply m .busy [] s ∧ s.ready = false) ∨
    ∃ bytes, x = .taken bytes ∧ bytes.length = n ∧ s.ready = true ∧ takeFixed m n x s own = own bytes := by
  unfold takeFixed
  obtain h | h | ⟨bytes, hx, -, hr, h⟩ := takeCommand_cases s m x fun bytes =>
    if bytes.length ≠ n then reply m .badLength [] s else own bytes
  · exact .inl h
  · exact .inr (.inl h)
  · by_cases hl : bytes.length = n
    · exact .inr (.inr ⟨bytes, hx, hl, hr, by rw [h, if_neg (by simp [hl])]⟩)
    · exact .inl (by rw [h, if_pos hl])

/-- A command whose arguments have its length, while the part is ready, runs its own part. -/
theorem takeFixed_own (m : Master) {n : Nat} {bytes : List Byte} (own : List Byte → State) (hl : bytes.length = n)
    (hn : n ≤ 64) (hr : s.ready = true) : takeFixed m n (.taken bytes) s own = own bytes := by
  simp only [takeFixed, takeCommand, Config.maxArgs]
  rw [if_neg (by omega), if_neg (by simp [hr]), if_neg (by simp [hl])]

/-! ## Offers, delivery, the alert unit -/

theorem offerBay_frame (m : Master) (f : Frame) : ∃ b k, offerBay m f s = { s with bays := b, links := k } := by
  unfold offerBay
  split <;> exact ⟨_, _, rfl⟩

theorem offerLocal_frame (m : Master) (f : Frame) : ∃ b k, offerLocal m f s = { s with bays := b, links := k } := by
  obtain ⟨b, k, h⟩ := offerBay_frame s m f
  unfold offerLocal
  rw [h]
  split <;> exact ⟨_, _, rfl⟩

theorem tripReport_frame : ∃ k, tripReport s =
    { s with alert := .alert, alertHold := some s.globals.alertHold, links := k } := by
  unfold tripReport
  split <;> exact ⟨_, rfl⟩

theorem offerWhere_frame (pick : Master → Bool) (f : Frame) :
    ∃ b k, offerWhere pick f s = { s with bays := b, links := k } := by
  have second : ∀ s' : State, ∃ b k,
      (if pick .m2 then offerBay .m2 f s' else s') = { s' with bays := b, links := k } := by
    intro s'
    split
    · exact offerBay_frame s' .m2 f
    · exact ⟨_, _, rfl⟩
  unfold offerWhere
  dsimp only
  by_cases h1 : pick .m1 = true
  · obtain ⟨b, k, h⟩ := offerBay_frame s .m1 f
    obtain ⟨b', k', h'⟩ := second { s with bays := b, links := k }
    rw [if_pos h1, h, h']; exact ⟨_, _, rfl⟩
  · rw [if_neg h1]; exact second s

theorem countUnknown_frame (m : Master) : ∃ b, countUnknown m s = { s with bays := b } := by
  unfold countUnknown
  split <;> exact ⟨_, rfl⟩

theorem deliver_frame (p : Lane) (a : Addr) (f : Frame) :
    ∃ n b k, deliver p a f s = { s with lines := n, bays := b, links := k } := by
  unfold deliver
  split
  · obtain ⟨b, k, h⟩ := offerWhere_frame s (fun _ => true) f
    rw [h]; exact ⟨_, _, _, rfl⟩
  · split
    · split
      · rename_i g _
        obtain ⟨b, k, h⟩ := offerWhere_frame s g.members.get f
        rw [h]; exact ⟨_, _, _, rfl⟩
      · obtain ⟨b, h⟩ := countUnknown_frame s .m1
        rw [h]
        obtain ⟨b', h'⟩ := countUnknown_frame { s with bays := b } .m2
        rw [h']
        obtain ⟨b'', k, h''⟩ := offerWhere_frame { s with bays := b' }
          (fun m => decide ((s.bayCfg.get m).policy = .deliver)) f
        rw [h'']; exact ⟨_, _, _, rfl⟩
    · split
      · obtain ⟨b, k, h⟩ := offerWhere_frame s (bayHolds s a) f
        rw [h]; exact ⟨_, _, _, rfl⟩
      · exact ⟨_, _, _, rfl⟩

/-! ## Notification -/

theorem compareAt_frame (cause : Bool) (i : Nat) :
    ∃ o k, compareAt cause i s = { s with origins := o, links := k } := by
  unfold compareAt
  split
  · exact ⟨_, _, rfl⟩
  · split <;> exact ⟨_, _, rfl⟩

theorem compareEach_frame : ∀ (is : List Nat) (s : State),
    ∃ o k, compareEach is s = { s with origins := o, links := k }
  | [], s => ⟨_, _, rfl⟩
  | i :: is, s => by
    obtain ⟨o, k, h⟩ := compareAt_frame s false i
    obtain ⟨o', k', h'⟩ := compareEach_frame is { s with origins := o, links := k }
    unfold compareEach
    rw [h, h']; exact ⟨_, _, rfl⟩

theorem compareAll_frame : ∃ o k, compareAll s = { s with origins := o, links := k } := compareEach_frame _ s

theorem endEvent_frame (cause : Bool) (before : Level) (i : Nat) :
    ∃ o k, endEvent cause before i s = { s with origins := o, links := k } := by
  unfold endEvent
  obtain ⟨o, k, h⟩ := compareAt_frame s cause i
  dsimp only
  rw [h]
  split
  · exact ⟨_, _, rfl⟩
  · split
    · obtain ⟨o', k', h'⟩ := compareEach_frame (membersOf { s with origins := o, links := k } i)
        { s with origins := o, links := k }
      rw [h']; exact ⟨_, _, rfl⟩
    · exact ⟨_, _, rfl⟩

/-! ## The origin table -/

theorem placeOrigin_frame (r : Origin) :
    ∃ k, placeOrigin r s = { s with origins := tabPut s.origins (tabFree s.origins) r, links := k } := by
  unfold placeOrigin
  dsimp only
  split <;> exact ⟨_, rfl⟩

theorem createSilent_frame (r : Origin) :
    ∃ k, createSilent r s = { s with origins := tabPut s.origins (tabFree s.origins) r, links := k } := by
  obtain ⟨k, h⟩ := placeOrigin_frame s r
  unfold createSilent
  rw [h]; exact ⟨_, rfl⟩

theorem removeOrigin_frame (i : Nat) : ∃ k, removeOrigin i s =
    { s with origins := tabErase s.origins i, silentOrder := s.silentOrder.erase i, links := k } := ⟨_, rfl⟩

theorem judgeCopy_frame (created : Bool) (i : Nat) (r : Origin) (c : Copy) :
    ∃ n q o k, (judgeCopy created i r c s).1 = { s with lines := n, silentOrder := q, origins := o, links := k } := by
  unfold judgeCopy
  dsimp only
  obtain ⟨o, k, h⟩ := endEvent_frame
    { s with
      lines := (judge (judgeSettings s.globals) c ⟨s.lines, r⟩).closing.lines,
      silentOrder :=
        if (judge (judgeSettings s.globals) c ⟨s.lines, r⟩).verdict = .seed then s.silentOrder.erase i
        else s.silentOrder,
      origins := tabPut s.origins i (afterJudgment s c (judge (judgeSettings s.globals) c ⟨s.lines, r⟩)).1 }
    (created || (afterJudgment s c (judge (judgeSettings s.globals) c ⟨s.lines, r⟩)).2) r.pipe.level i
  rw [h]; exact ⟨_, _, _, _, rfl⟩

theorem judgeCreated_frame (i : Nat) (r : Origin) (c : Copy) :
    ∃ n q o k, (judgeCreated i r c s).1 = { s with lines := n, silentOrder := q, origins := o, links := k } :=
  judgeCopy_frame s true i r c

theorem filterCopy_frame (a : Addr) (c : Copy) :
    ∃ n q o k, (filterCopy a c s).1 = { s with lines := n, silentOrder := q, origins := o, links := k } := by
  unfold filterCopy
  split
  · rename_i i r _
    exact judgeCopy_frame s false i r c
  · dsimp only
    split
    · exact ⟨_, _, _, _, rfl⟩
    · split
      · obtain ⟨k, h⟩ := placeOrigin_frame s (learnedFrom a c s)
        rw [h]
        obtain ⟨n, q, o, k', h'⟩ := judgeCreated_frame
          { s with origins := tabPut s.origins (tabFree s.origins) (learnedFrom a c s), links := k }
          (tabFree s.origins) (learnedFrom a c s) c
        rw [h']; exact ⟨_, _, _, _, rfl⟩
      · split
        · exact ⟨_, _, _, _, rfl⟩
        · rename_i head _ _
          obtain ⟨n, q, o, k', h'⟩ := judgeCreated_frame (evictFor head (learnedFrom a c s) s) head
            (learnedFrom a c s) c
          rw [h']; exact ⟨_, _, _, _, rfl⟩

theorem takeProxy_frame (i : Nat) (p : Lane) (a : Addr) :
    ∃ n q o k, takeProxy i p a s = { s with lines := n, silentOrder := q, origins := o, links := k } := by
  unfold takeProxy
  split
  · split <;> exact ⟨_, _, _, _, rfl⟩
  · split
    · exact ⟨_, _, _, _, rfl⟩
    · split
      · exact ⟨_, _, _, _, rfl⟩
      · dsimp only
        obtain ⟨k, h⟩ := createSilent_frame s (Origin.learn s.globals.profile a (.rollCallOf i))
        rw [h]; exact ⟨_, _, _, _, rfl⟩

theorem takeProxies_frame (i : Nat) (p : Lane) : ∀ (as : List Addr) (s : State),
    ∃ n q o k, takeProxies i p as s = { s with lines := n, silentOrder := q, origins := o, links := k }
  | [], s => ⟨_, _, _, _, rfl⟩
  | a :: as, s => by
    obtain ⟨n, q, o, k, h⟩ := takeProxy_frame s i p a
    obtain ⟨n', q', o', k', h'⟩ :=
      takeProxies_frame i p as { s with lines := n, silentOrder := q, origins := o, links := k }
    unfold takeProxies
    rw [h, h']; exact ⟨_, _, _, _, rfl⟩

/-! ## Line ports and frames from the lanes -/

theorem decidePort_frame (l : Lane) : ∃ n k, decidePort l s = { s with lines := n, links := k } := by
  unfold decidePort
  dsimp only
  split
  · exact ⟨_, _, rfl⟩
  · split
    · exact ⟨_, _, rfl⟩
    · split <;> exact ⟨_, _, rfl⟩

theorem countAssurance_frame (l c : Lane) : ∃ n k, countAssurance l c s = { s with lines := n, links := k } := by
  unfold countAssurance
  dsimp only
  split
  · exact ⟨_, _, rfl⟩
  · obtain ⟨n, k, h⟩ := decidePort_frame
      (s.setLine l { s.lines.get l with run := (s.lines.get l).run.add c,
                                        cnt := { (s.lines.get l).cnt with
                                                 assurance := (s.lines.get l).cnt.assurance + 1 } }) l
    rw [h]; exact ⟨_, _, rfl⟩

theorem rollCallUnit_frame (i : Option Nat) (p : Lane) (t : Tagged) :
    ∃ n q o k, rollCallUnit i p t s = { s with lines := n, silentOrder := q, origins := o, links := k } := by
  unfold rollCallUnit
  split
  · cases i with
    | none =>
      obtain ⟨n, k, h⟩ := countAssurance_frame s p t.code
      dsimp only
      rw [h]; exact ⟨_, _, _, _, rfl⟩
    | some i =>
      obtain ⟨n, q, o, k, h⟩ := takeProxies_frame i p (proxiesOf t.body) s
      dsimp only
      rw [h]
      obtain ⟨n', k', h'⟩ :=
        countAssurance_frame { s with lines := n, silentOrder := q, origins := o, links := k } p t.code
      rw [h']; exact ⟨_, _, _, _, rfl⟩
  · exact ⟨_, _, _, _, rfl⟩

theorem handOn_frame (i : Option Nat) (p : Lane) (t : Tagged) :
    ∃ n b q o a h k, handOn i p t s =
      { s with lines := n, bays := b, silentOrder := q, origins := o, alert := a, alertHold := h, links := k } := by
  have key : ∀ s' : State, ∃ n b q o k,
      (if t.cls = .rollCall then rollCallUnit i p t s'
       else if t.dest = Config.rollCallGroup then countMalformed p s'
       else deliver p t.dest ⟨t.cls, t.body⟩ s') =
      { s' with lines := n, bays := b, silentOrder := q, origins := o, links := k } := by
    intro s'
    split
    · obtain ⟨n, q, o, k, h⟩ := rollCallUnit_frame s' i p t
      rw [h]; exact ⟨_, _, _, _, _, rfl⟩
    · split
      · exact ⟨_, _, _, _, _, rfl⟩
      · obtain ⟨n, b, k, h⟩ := deliver_frame s' p t.dest ⟨t.cls, t.body⟩
        rw [h]; exact ⟨_, _, _, _, _, rfl⟩
  unfold handOn
  dsimp only
  by_cases ht : t.cls = .trip
  · obtain ⟨k, h⟩ := tripReport_frame s
    rw [if_pos ht, h]
    obtain ⟨n, b, q, o, k', h'⟩ :=
      key { s with alert := .alert, alertHold := some s.globals.alertHold, links := k }
    rw [h']; exact ⟨_, _, _, _, _, _, _, rfl⟩
  · rw [if_neg ht]
    obtain ⟨n, b, q, o, k', h'⟩ := key s
    rw [h']; exact ⟨_, _, _, _, _, _, _, rfl⟩

/-- Everything a frame from a lane can change. -/
theorem lineFrameEffect_frame (l : Lane) (f : RxFrame) :
    ∃ n b q o a h k, lineFrameEffect l f s =
      { s with lines := n, bays := b, silentOrder := q, origins := o, alert := a, alertHold := h, links := k } := by
  have unt : ∀ s' : State, ∃ n b k, untagged l f.data s' = { s' with lines := n, bays := b, links := k } := by
    intro s'
    unfold untagged
    split
    · exact ⟨_, _, _, rfl⟩
    · exact deliver_frame s' l _ _
  unfold lineFrameEffect
  split
  · exact ⟨_, _, _, _, _, _, _, rfl⟩
  · split
    · exact ⟨_, _, _, _, _, _, _, rfl⟩
    · split
      · obtain ⟨n, b, k, h⟩ := unt s
        rw [h]; exact ⟨_, _, _, _, _, _, _, rfl⟩
      · obtain ⟨n, b, k, h⟩ := unt (s.countLine l fun c => { c with trailerMismatch := c.trailerMismatch + 1 })
        rw [h]; exact ⟨_, _, _, _, _, _, _, rfl⟩
      · rename_i t _
        unfold pairFilter
        split
        · exact ⟨_, _, _, _, _, _, _, rfl⟩
        · obtain ⟨n, q, o, k, h⟩ := filterCopy_frame s t.source ⟨l, t.seq, s.tick⟩
          generalize filterCopy t.source ⟨l, t.seq, s.tick⟩ s = y at h
          obtain ⟨s', v⟩ := y
          dsimp only at h
          subst h
          cases v with
          | overflow =>
            obtain ⟨n', b', q', o', a', h', k', e⟩ := handOn_frame
              ({ s with lines := n, silentOrder := q, origins := o, links := k }.countLine l
                fun c => { c with overflow := c.overflow + 1 }) none l t
            dsimp only
            rw [e]; exact ⟨_, _, _, _, _, _, _, rfl⟩
          | judged i v =>
            dsimp only
            split
            · obtain ⟨n', b', q', o', a', h', k', e⟩ := handOn_frame
                { s with lines := n, silentOrder := q, origins := o, links := k } (some i) l t
              rw [e]; exact ⟨_, _, _, _, _, _, _, rfl⟩
            · exact ⟨_, _, _, _, _, _, _, rfl⟩

/-! ## Frames from the relays -/

/-- Everything a relay frame can change. -/
theorem bayFrameEffect_frame (m : Master) (f : RxFrame) :
    ∃ n b a h k, bayFrameEffect m f s =
      { s with lines := n, bays := b, alert := a, alertHold := h, links := k } := by
  have send : ∀ (c : TrafficClass) (d : List Byte) (s' : State),
      ∃ n b, sendToLanes m c d s' = { s' with lines := n, bays := b } := by
    intro c d s'
    unfold sendToLanes
    split
    · exact ⟨_, _, rfl⟩
    · exact ⟨_, _, rfl⟩
    · exact ⟨_, _, rfl⟩
    · unfold sendNumbered
      dsimp only
      split <;> exact ⟨_, _, rfl⟩
  have rest : ∀ (c : TrafficClass) (s' : State), ∃ n b k,
      sendToLanes m c f.data
        (if localCopyTo (otherMaster m) (destOf f.data) (s'.onBay m (.meet (sourceOf f.data)))
         then offerLocal (otherMaster m) ⟨c, f.data⟩ (s'.onBay m (.meet (sourceOf f.data)))
         else s'.onBay m (.meet (sourceOf f.data))) = { s' with lines := n, bays := b, links := k } := by
    intro c s'
    split
    · obtain ⟨b, k, h⟩ := offerLocal_frame (s'.onBay m (.meet (sourceOf f.data))) (otherMaster m) ⟨c, f.data⟩
      rw [h]
      obtain ⟨n, b', h'⟩ := send c f.data { s'.onBay m (.meet (sourceOf f.data)) with bays := b, links := k }
      rw [h']; exact ⟨_, _, _, rfl⟩
    · obtain ⟨n, b', h'⟩ := send c f.data (s'.onBay m (.meet (sourceOf f.data)))
      rw [h']; exact ⟨_, _, _, rfl⟩
  unfold bayFrameEffect
  split
  · exact ⟨_, _, _, _, _, rfl⟩
  · split
    · exact ⟨_, _, _, _, _, rfl⟩
    · unfold relayFrame
      dsimp only
      by_cases ht : classByTable s (destOf f.data) = .trip
      · obtain ⟨k, h⟩ := tripReport_frame s
        rw [if_pos ht, h]
        obtain ⟨n, b, k', h'⟩ := rest (classByTable s (destOf f.data))
          { s with alert := .alert, alertHold := some s.globals.alertHold, links := k }
        rw [h']; exact ⟨_, _, _, _, _, rfl⟩
      · rw [if_neg ht]
        obtain ⟨n, b, k', h'⟩ := rest (classByTable s (destOf f.data)) s
        rw [h']; exact ⟨_, _, _, _, _, rfl⟩

/-! ## Apply -/

theorem putOrigin_frame {m : Master} {a : Addr} {f : PutFields} {s t : State} (h : putOrigin m a f s = .ok t) :
    ∃ o q k, t = { s with origins := o, silentOrder := q, links := k } := by
  unfold putOrigin at h
  split at h
  · split at h
    · cases h
    · split at h
      · cases h
      · split at h
        · cases h
        · split at h <;> cases h <;> exact ⟨_, _, _, rfl⟩
  · split at h
    · cases h
    · split at h
      · cases h
      · split at h
        · cases h
        · cases h
          rename_i ref _ _
          obtain ⟨k, e⟩ := createSilent_frame s (Origin.fresh a (soleOwner m) (f.settings ref 0))
          exact ⟨_, _, _, e⟩

theorem deleteOrigin_frame {m : Master} {a : Addr} {s t : State} (h : deleteOrigin m a s = .ok t) :
    ∃ o q k, t = { s with origins := o, silentOrder := q, links := k } := by
  unfold deleteOrigin at h
  split at h
  · cases h
  · split at h
    · cases h
    · split at h
      · cases h
      · dsimp only at h
        split at h
        · cases h; exact ⟨_, _, _, rfl⟩
        · split at h
          · cases h
          · cases h; exact ⟨_, _, _, rfl⟩

theorem shareOrigin_frame {m : Master} {a : Addr} {s t : State} (h : shareOrigin m a s = .ok t) :
    ∃ o, t = { s with origins := o } := by
  unfold shareOrigin at h
  split at h
  · cases h
  · split at h
    · cases h
    · split at h
      · cases h
      · cases h; exact ⟨_, rfl⟩

theorem joinGroup_frame {m : Master} {a : Addr} {c : GroupClass} {s t : State} (h : joinGroup m a c s = .ok t) :
    ∃ g, t = { s with groups := g } := by
  unfold joinGroup at h
  split at h
  · split at h
    · cases h
    · cases h; exact ⟨_, rfl⟩
  · split at h
    · cases h
    · cases h; exact ⟨_, rfl⟩

theorem leaveGroup_frame (m : Master) (a : Addr) : ∃ g, leaveGroup m a s = { s with groups := g } := by
  unfold leaveGroup
  split
  · exact ⟨_, rfl⟩
  · dsimp only
    split <;> exact ⟨_, rfl⟩

theorem putGlobal_frame {g : GlobalSetting} {v1 v2 v3 : Nat} {s t : State} (h : putGlobal g v1 v2 v3 s = .ok t) :
    ∃ o, t = { s with origins := o, globals := s.globals.put v1 v2 v3 g } := by
  unfold putGlobal at h
  split at h
  · cases h
  · dsimp only at h
    split at h <;> cases h <;> exact ⟨_, rfl⟩

/-- Everything the commit of one item can change. -/
theorem commitItem_frame {m : Master} {it : Item} {s t : State} {c : Bool} (h : commitItem m it s = .ok (t, c)) :
    ∃ o q g gl bc k,
      t = { s with origins := o, silentOrder := q, groups := g, globals := gl, bayCfg := bc, links := k } := by
  cases it with
  | originPut a f =>
    simp only [commitItem] at h
    cases hp : putOrigin m a f.clamped s with
    | error e => rw [hp] at h; cases h
    | ok t' =>
      rw [hp] at h; cases h
      obtain ⟨o, q, k, e⟩ := putOrigin_frame hp
      exact ⟨_, _, _, _, _, _, e⟩
  | originDelete a =>
    simp only [commitItem] at h
    cases hp : deleteOrigin m a s with
    | error e => rw [hp] at h; cases h
    | ok t' =>
      rw [hp] at h; cases h
      obtain ⟨o, q, k, e⟩ := deleteOrigin_frame hp
      exact ⟨_, _, _, _, _, _, e⟩
  | originShare a =>
    simp only [commitItem] at h
    cases hp : shareOrigin m a s with
    | error e => rw [hp] at h; cases h
    | ok t' =>
      rw [hp] at h; cases h
      obtain ⟨o, e⟩ := shareOrigin_frame hp
      exact ⟨_, _, _, _, _, _, e⟩
  | groupJoin a cls =>
    simp only [commitItem] at h
    cases hp : joinGroup m a cls s with
    | error e => rw [hp] at h; cases h
    | ok t' =>
      rw [hp] at h; cases h
      obtain ⟨g, e⟩ := joinGroup_frame hp
      exact ⟨_, _, _, _, _, _, e⟩
  | groupLeave a =>
    simp only [commitItem] at h
    cases h
    obtain ⟨g, e⟩ := leaveGroup_frame s m a
    exact ⟨_, _, _, _, _, _, e⟩
  | globalPut g v1 v2 v3 =>
    simp only [commitItem] at h
    cases hp : putGlobal g (globalClamp g v1) (globalClamp g v2) (globalClamp g v3) s with
    | error e => rw [hp] at h; cases h
    | ok t' =>
      rw [hp] at h; cases h
      obtain ⟨o, e⟩ := putGlobal_frame hp
      exact ⟨_, _, _, _, _, _, e⟩
  | bayPut b v => simp only [commitItem] at h; cases h; exact ⟨_, _, _, _, _, _, rfl⟩

/-- Everything the commit of a list of items can change. -/
theorem commitItems_frame {m : Master} : ∀ {its : List Item} {n first first' : Nat} {s t : State},
    commitItems m its n first s = .ok (t, first') →
    ∃ o q g gl bc k,
      t = { s with origins := o, silentOrder := q, groups := g, globals := gl, bayCfg := bc, links := k }
  | [], _, _, _, _, _, h => by
    simp only [commitItems] at h
    cases h; exact ⟨_, _, _, _, _, _, rfl⟩
  | it :: its, n, first, first', s, t, h => by
    simp only [commitItems] at h
    split at h
    · cases h
    · rename_i s' c hc
      obtain ⟨o, q, g, gl, bc, k, e⟩ := commitItem_frame hc
      obtain ⟨o', q', g', gl', bc', k', e'⟩ := commitItems_frame h
      subst e
      exact ⟨_, _, _, _, _, _, e'⟩

/-- Everything one taking of an apply can change. -/
theorem takeApply_frame (m : Master) : ∃ o q g gl bc k st, takeApply m s =
    { s with origins := o, silentOrder := q, groups := g, globals := gl, bayCfg := bc, links := k, staging := st,
             applyPending := s.applyPending.set m false,
             applyResult := s.applyResult.set m ((takeApply m s).applyResult.get m) } := by
  unfold takeApply
  dsimp only
  split
  · rename_i reason n _
    cases m <;> exact ⟨_, _, _, _, _, _, _, rfl⟩
  · rename_i s' first hc
    obtain ⟨o, q, g, gl, bc, k, e⟩ := commitItems_frame hc
    obtain ⟨o', k', e'⟩ := compareAll_frame s'
    rw [e', e]
    cases m <;> exact ⟨_, _, _, _, _, _, _, rfl⟩

/-! ## Line port commands -/

theorem enterProbing_frame (l : Lane) :
    ∃ n o k, enterProbing l s = { s with lines := n, origins := o, links := k } := by
  unfold enterProbing
  obtain ⟨o, k, h⟩ := compareAll_frame (raiseBoth .lanePort (s.onLine l (.probing s.globals.probeLimit)))
  rw [h]; exact ⟨_, _, _, rfl⟩

theorem lineUp_frame (l : Lane) : ∃ n o k, lineUp l s = { s with lines := n, origins := o, links := k } := by
  unfold lineUp
  dsimp only
  split
  · obtain ⟨n, o, k, h⟩ := enterProbing_frame (raiseBoth .lanePort
      (s.onLine l fun p => { p with state := .settling, settle := some s.globals.settleTime, laneUp := 0 })) l
    rw [h]; exact ⟨_, _, _, rfl⟩
  · exact ⟨_, _, _, rfl⟩

theorem announce_frame : ∃ n q, announce s =
    { s with rollTimer := some s.globals.rollInterval, lines := n, rollSeq := q } := by
  unfold announce
  dsimp only
  split <;> exact ⟨_, _, rfl⟩

end Sys2Proof.Machine
end

