-- ==== Sys2Proof/Laws/Framing.lean ====
section
/-! SUPPORT. What the framing of a control link can do in one select period (R14). -/

namespace Sys2Proof.Machine

/-- Bytes after the command is taken are ignored. -/
@[simp] theorem Framing.run_answering (bs : List Byte) : Framing.run .answering bs = (.answering, none) := by
  induction bs with
  | nil => rfl
  | cons b bs ih => simp [Framing.run, Framing.receive, ih]

/-- Fewer bytes than the arguments still awaited leave the framing receiving, with no command taken. -/
theorem Framing.run_receiving_short (code : Byte) (bs got : List Byte) (n : Nat) (h : bs.length < n) :
    Framing.run (.receiving code n got) bs = (.receiving code (n - bs.length) (got ++ bs), none) := by
  induction bs generalizing got n with
  | nil => simp [Framing.run]
  | cons b bs ih =>
    simp only [List.length_cons] at h
    simp only [Framing.run, Framing.receive, if_neg (show ¬n ≤ 1 by omega), ih (got ++ [b]) (n - 1) (by omega)]
    simp only [List.length_cons, List.append_assoc, List.singleton_append, Option.none_or]
    rw [Nat.sub_sub, Nat.add_comm]

/-- The last awaited argument byte takes the command with all of its arguments. -/
theorem Framing.run_receiving_full (code : Byte) (bs got : List Byte) (n : Nat) (hn : 0 < n) (h : n ≤ bs.length) :
    Framing.run (.receiving code n got) bs = (.answering, some (code, .taken (got ++ bs.take n))) := by
  induction bs generalizing got n with
  | nil => simp at h; omega
  | cons b bs ih =>
    by_cases h1 : n ≤ 1
    · obtain rfl : n = 1 := by omega
      simp [Framing.run, Framing.receive]
    · simp only [List.length_cons] at h
      simp only [Framing.run, Framing.receive, if_neg h1, ih (got ++ [b]) (n - 1) (by omega) (by omega)]
      obtain ⟨k, rfl⟩ : ∃ k, n = k + 1 := ⟨n - 1, by omega⟩
      simp

end Sys2Proof.Machine
end

