-- ==== Sys2Proof/Laws/PerInstr.lean ====
section
/-! SUPPORT. Statements for all commands, made command by command. -/

namespace Sys2Proof.Laws.CommandByte

/-- A well-formed command's argument bytes are framed as R14 says; its command byte, if it has one, is one that R15
gives a meaning, but for an unknown command, whose byte R15 gives none. -/
def Statement (i : Instr) : Prop :=
  i.wf = true →
    (∀ x, i.args = some x → x.wf = true) ∧
    ∀ c, i.commandByte = some c → (knownCommand c = true ↔ ∀ m code x, i ≠ .unknownCommand m code x)

theorem of_none {i : Instr} (ha : i.args = none) (hc : i.commandByte = none) : Statement i := by
  intro _
  exact ⟨fun x hx => by simp [ha] at hx, fun c h => by simp [hc] at h⟩

theorem of_known {i : Instr} {x : Args} {c : Byte} (ha : i.args = some x) (hc : i.commandByte = some c)
    (hw : i.wf = (x.wf && true)) (hk : knownCommand c = true) (hn : ∀ m code y, i ≠ .unknownCommand m code y) :
    Statement i := by
  intro h
  refine ⟨fun y hy => ?_, fun d hd => ?_⟩
  · rw [ha] at hy; cases hy; simpa [hw] using h
  · rw [hc] at hd; cases hd; exact ⟨fun _ => hn, fun _ => hk⟩

theorem powerOn (phys : Phys) : Statement (.powerOn phys) := of_none rfl rfl

theorem resetPin (phys : Phys) : Statement (.resetPin phys) := of_none rfl rfl

theorem startQuietEnd : Statement .startQuietEnd := of_none rfl rfl

theorem lineFrameReceive (lane : Lane) (frame : RxFrame) : Statement (.lineFrameReceive lane frame) := of_none rfl rfl

theorem bayFrameReceive (bay : Master) (frame : RxFrame) : Statement (.bayFrameReceive bay frame) := of_none rfl rfl

theorem bayLinkUp (bay : Master) : Statement (.bayLinkUp bay) := of_none rfl rfl

theorem bayLinkDown (bay : Master) : Statement (.bayLinkDown bay) := of_none rfl rfl

theorem lineLinkLoss (lane : Lane) : Statement (.lineLinkLoss lane) := of_none rfl rfl

theorem glitch (lane : Lane) : Statement (.glitch lane) := of_none rfl rfl

theorem linkFailExpiry (lane : Lane) : Statement (.linkFailExpiry lane) := of_none rfl rfl

theorem lineLinkUp (lane : Lane) : Statement (.lineLinkUp lane) := of_none rfl rfl

theorem settleExpiry (lane : Lane) : Statement (.settleExpiry lane) := of_none rfl rfl

theorem probeLimitExpiry (lane : Lane) : Statement (.probeLimitExpiry lane) := of_none rfl rfl

theorem rollCallTimerExpiry : Statement .rollCallTimerExpiry := of_none rfl rfl

theorem lineTransmitStart (lane : Lane) : Statement (.lineTransmitStart lane) := of_none rfl rfl

theorem lineTransmitDone (lane : Lane) : Statement (.lineTransmitDone lane) := of_none rfl rfl

theorem bayTransmitStart (bay : Master) : Statement (.bayTransmitStart bay) := of_none rfl rfl

theorem bayTransmitDone (bay : Master) : Statement (.bayTransmitDone bay) := of_none rfl rfl

theorem pacingTimerExpiry (bay : Master) : Statement (.pacingTimerExpiry bay) := of_none rfl rfl

theorem pairExpiry (index : Nat) : Statement (.pairExpiry index) := of_none rfl rfl

theorem silenceExpiry (index : Nat) : Statement (.silenceExpiry index) := of_none rfl rfl

theorem forgetExpiry (index : Nat) : Statement (.forgetExpiry index) := of_none rfl rfl

theorem holdExpiry (index : Nat) : Statement (.holdExpiry index) := of_none rfl rfl

theorem alertHoldExpiry : Statement .alertHoldExpiry := of_none rfl rfl

theorem secondsTick : Statement .secondsTick := of_none rfl rfl

theorem cutTransaction (link : Master) (received : List Byte) :
    Statement (.cutTransaction link received) := of_none rfl rfl

theorem unknownCommand (link : Master) (code : Byte) (args : Args) :
    Statement (.unknownCommand link code args) := by
  intro h
  have hx : args.wf = true ∧ knownCommand code = false := by simpa [Instr.wf, Instr.args] using h
  refine ⟨fun x hy => ?_, fun c hc => ?_⟩
  · cases hy; exact hx.1
  · cases hc; exact ⟨fun hk => absurd hk (by simp [hx.2]), fun hn => absurd rfl (hn link code args)⟩

theorem identify (link : Master) (args : Args) : Statement (.identify link args) := of_known rfl rfl rfl rfl nofun

theorem readOrigin (link : Master) (args : Args) : Statement (.readOrigin link args) := of_known rfl rfl rfl rfl nofun

theorem findOrigin (link : Master) (args : Args) : Statement (.findOrigin link args) := of_known rfl rfl rfl rfl nofun

theorem readGroup (link : Master) (args : Args) : Statement (.readGroup link args) := of_known rfl rfl rfl rfl nofun

theorem readPort (link : Master) (args : Args) : Statement (.readPort link args) := of_known rfl rfl rfl rfl nofun

theorem readTime (link : Master) (args : Args) : Statement (.readTime link args) := of_known rfl rfl rfl rfl nofun

theorem stage (link : Master) (args : Args) : Statement (.stage link args) := of_known rfl rfl rfl rfl nofun

theorem discardStaging (link : Master) (args : Args) :
    Statement (.discardStaging link args) := of_known rfl rfl rfl rfl nofun

theorem apply (link : Master) (args : Args) : Statement (.apply link args) := of_known rfl rfl rfl rfl nofun

theorem applyTaken : Statement .applyTaken := of_none rfl rfl

theorem readApplyResult (link : Master) (args : Args) :
    Statement (.readApplyResult link args) := of_known rfl rfl rfl rfl nofun

theorem readEvents (link : Master) (args : Args) : Statement (.readEvents link args) := of_known rfl rfl rfl rfl nofun

theorem ackEvents (link : Master) (args : Args) : Statement (.ackEvents link args) := of_known rfl rfl rfl rfl nofun

theorem setEventMask (link : Master) (args : Args) :
    Statement (.setEventMask link args) := of_known rfl rfl rfl rfl nofun

theorem readChanges (link : Master) (args : Args) :
    Statement (.readChanges link args) := of_known rfl rfl rfl rfl nofun

theorem ackRestart (link : Master) (args : Args) : Statement (.ackRestart link args) := of_known rfl rfl rfl rfl nofun

theorem saveSet (link : Master) (args : Args) : Statement (.saveSet link args) := of_known rfl rfl rfl rfl nofun

theorem saveCompletion (verified : Bool) : Statement (.saveCompletion verified) := of_none rfl rfl

theorem selectStartSet (link : Master) (args : Args) :
    Statement (.selectStartSet link args) := of_known rfl rfl rfl rfl nofun

theorem restart (link : Master) (args : Args) : Statement (.restart link args) := of_known rfl rfl rfl rfl nofun

theorem restartTakesEffect (phys : Phys) : Statement (.restartTakesEffect phys) := of_none rfl rfl

end Sys2Proof.Laws.CommandByte
end

