-- ==== Sys2Proof/Laws/Table.lean ====
section
/-! SUPPORT. The laws of the numbered tables: reading after writing, and that every operation keeps the canonical
form. -/

namespace Sys2Proof.Machine

set_option Elab.async false

variable {α β : Type}

/-! ## Rising lists -/

theorem risingFrom_mono : ∀ {n m : Nat} {l : List Nat}, n ≤ m → risingFrom m l = true → risingFrom n l = true
  | _, _, [], _, _ => rfl
  | n, m, k :: t, h, hr => by
    simp only [risingFrom, Bool.and_eq_true, decide_eq_true_eq] at hr ⊢
    exact ⟨by omega, hr.2⟩

theorem risingFrom_le : ∀ {n : Nat} {l : List Nat}, risingFrom n l = true → ∀ k ∈ l, n ≤ k
  | _, [], _, k, hk => by simp at hk
  | n, a :: t, hr, k, hk => by
    simp only [risingFrom, Bool.and_eq_true, decide_eq_true_eq] at hr
    rcases List.mem_cons.1 hk with rfl | hk
    · exact hr.1
    · have := risingFrom_le hr.2 k hk; omega

theorem risingFrom_nodup : ∀ {n : Nat} {l : List Nat}, risingFrom n l = true → l.Nodup
  | _, [], _ => List.nodup_nil
  | n, a :: t, hr => by
    simp only [risingFrom, Bool.and_eq_true, decide_eq_true_eq] at hr
    refine List.nodup_cons.2 ⟨fun h => ?_, risingFrom_nodup hr.2⟩
    have := risingFrom_le hr.2 a h; omega

/-- A number added to a strictly rising set leaves it strictly rising. -/
theorem risingFrom_setInsert : ∀ {n i : Nat} {l : List Nat}, n ≤ i → risingFrom n l = true →
    risingFrom n (setInsert i l) = true
  | n, i, [], h, _ => by simp [setInsert, risingFrom, h]
  | n, i, k :: t, h, hr => by
    have hr0 := hr
    simp only [risingFrom, Bool.and_eq_true, decide_eq_true_eq] at hr
    unfold setInsert
    split
    · simp only [risingFrom, Bool.and_eq_true, decide_eq_true_eq]; exact ⟨h, by omega, hr.2⟩
    · split
      · exact hr0
      · simp only [risingFrom, Bool.and_eq_true, decide_eq_true_eq]
        exact ⟨hr.1, risingFrom_setInsert (by omega) hr.2⟩

@[simp] theorem mem_setInsert : ∀ {i k : Nat} {l : List Nat}, k ∈ setInsert i l ↔ k = i ∨ k ∈ l
  | i, k, [] => by simp [setInsert]
  | i, k, a :: t => by
    unfold setInsert
    split
    · simp
    · split
      · rename_i h; subst h; simp
      · simp only [List.mem_cons, mem_setInsert]; tauto

/-- What is left of a strictly rising list after its first members are taken is strictly rising. -/
theorem risingFrom_drop : ∀ {n : Nat} (m : Nat) {l : List Nat}, risingFrom n l = true → risingFrom n (l.drop m) = true
  | _, 0, _, h => h
  | _, _ + 1, [], h => h
  | n, m + 1, k :: t, h => by
    simp only [risingFrom, Bool.and_eq_true, decide_eq_true_eq] at h
    exact risingFrom_drop m (risingFrom_mono (by omega) h.2)

/-! ## Keys -/

@[simp] theorem tabKeys_nil : tabKeys ([] : List (Nat × α)) = [] := rfl
@[simp] theorem tabKeys_cons (e : Nat × α) (t : List (Nat × α)) : tabKeys (e :: t) = e.1 :: tabKeys t := rfl

@[simp] theorem tabKeys_tabMap (f : α → β) (t : List (Nat × α)) : tabKeys (tabMap f t) = tabKeys t := by
  simp [tabKeys, tabMap, Function.comp_def]

@[simp] theorem length_tabMap (f : α → β) (t : List (Nat × α)) : (tabMap f t).length = t.length := by
  simp [tabMap]

theorem tabKeys_tabPut : ∀ (t : List (Nat × α)) (i : Nat) (x : α), tabKeys (tabPut t i x) = setInsert i (tabKeys t)
  | [], _, _ => rfl
  | (k, v) :: t, i, x => by
    simp only [tabPut, tabKeys_cons, setInsert]
    split
    · rfl
    · split
      · rename_i h; subst h; simp
      · simp [tabKeys_tabPut t i x]

/-! ## Reading after writing -/

theorem tabGet_tabPut : ∀ (t : List (Nat × α)) (i j : Nat) (x : α),
    tabGet (tabPut t i x) j = if i = j then some x else tabGet t j
  | [], i, j, x => by simp [tabPut, tabGet]
  | (k, v) :: t, i, j, x => by
    unfold tabPut
    split
    · simp only [tabGet]
    · split
      · rename_i h; subst h
        simp only [tabGet]
        split <;> rfl
      · simp only [tabGet, tabGet_tabPut t i j x]
        split
        · rename_i h1 h2 h3
          have : i ≠ j := by omega
          simp [this]
        · rfl

@[simp] theorem tabGet_tabPut_same (t : List (Nat × α)) (i : Nat) (x : α) : tabGet (tabPut t i x) i = some x := by
  simp [tabGet_tabPut]

theorem tabGet_tabPut_other (t : List (Nat × α)) {i j : Nat} (x : α) (h : i ≠ j) :
    tabGet (tabPut t i x) j = tabGet t j := by
  simp [tabGet_tabPut, h]

theorem tabGet_tabErase_other : ∀ (t : List (Nat × α)) {i j : Nat}, i ≠ j → tabGet (tabErase t i) j = tabGet t j
  | [], _, _, _ => rfl
  | (k, v) :: t, i, j, h => by
    unfold tabErase
    split
    · rename_i hk; subst hk; simp [tabGet, h]
    · simp only [tabGet, tabGet_tabErase_other t h]

theorem tabGet_none_of_lt : ∀ {t : List (Nat × α)} {n i : Nat}, risingFrom n (tabKeys t) = true → i < n →
    tabGet t i = none
  | [], _, _, _, _ => rfl
  | (k, v) :: t, n, i, hr, h => by
    simp only [tabKeys_cons, risingFrom, Bool.and_eq_true, decide_eq_true_eq] at hr
    simp only [tabGet]
    rw [if_neg (by omega)]
    exact tabGet_none_of_lt hr.2 (by omega)

/-- A place freed in a table in canonical form reads as free. -/
theorem tabGet_tabErase_same : ∀ {t : List (Nat × α)} {n : Nat} (i : Nat), risingFrom n (tabKeys t) = true →
    tabGet (tabErase t i) i = none
  | [], _, _, _ => rfl
  | (k, v) :: t, n, i, hr => by
    simp only [tabKeys_cons, risingFrom, Bool.and_eq_true, decide_eq_true_eq] at hr
    unfold tabErase
    split
    · rename_i h; subst h; exact tabGet_none_of_lt hr.2 (by omega)
    · rename_i h; simp only [tabGet, h, if_false]; exact tabGet_tabErase_same i hr.2

theorem tabGet_tabMap (f : α → β) : ∀ (t : List (Nat × α)) (i : Nat), tabGet (tabMap f t) i = (tabGet t i).map f
  | [], _ => rfl
  | (k, v) :: t, i => by
    have h := tabGet_tabMap f t i
    simp only [tabMap, List.map_cons, tabGet] at h ⊢
    split
    · rfl
    · exact h

/-- A listed entry is a member. -/
theorem mem_of_tabGet : ∀ {t : List (Nat × α)} {i : Nat} {x : α}, tabGet t i = some x → (i, x) ∈ t
  | [], _, _, h => by simp [tabGet] at h
  | (k, v) :: t, i, x, h => by
    simp only [tabGet] at h
    split at h
    · rename_i hk; subst hk; simp only [Option.some.injEq] at h; subst h; exact List.mem_cons_self
    · exact List.mem_cons_of_mem _ (mem_of_tabGet h)

/-- In a table in canonical form a member is what its place reads as. -/
theorem tabGet_of_mem : ∀ {t : List (Nat × α)} {n i : Nat} {x : α}, risingFrom n (tabKeys t) = true → (i, x) ∈ t →
    tabGet t i = some x
  | [], _, _, _, _, h => by simp at h
  | (k, v) :: t, n, i, x, hr, h => by
    simp only [tabKeys_cons, risingFrom, Bool.and_eq_true, decide_eq_true_eq] at hr
    rcases List.mem_cons.1 h with h | h
    · cases h; simp [tabGet]
    · have hk : i ∈ tabKeys t := List.mem_map_of_mem (f := Prod.fst) h
      have := risingFrom_le hr.2 i hk
      simp only [tabGet]
      rw [if_neg (by omega)]
      exact tabGet_of_mem hr.2 h

/-- What a test finds is in the table and passes the test. -/
theorem tabFind_some {p : α → Bool} : ∀ {t : List (Nat × α)} {i : Nat} {x : α}, tabFind p t = some (i, x) →
    (i, x) ∈ t ∧ p x = true
  | [], _, _, h => by simp [tabFind] at h
  | (k, v) :: t, i, x, h => by
    simp only [tabFind] at h
    split at h
    · rename_i hp; cases h; exact ⟨List.mem_cons_self, hp⟩
    · have := tabFind_some h; exact ⟨List.mem_cons_of_mem _ this.1, this.2⟩

theorem tabFind_none {p : α → Bool} : ∀ {t : List (Nat × α)}, tabFind p t = none → ∀ e ∈ t, p e.2 = false
  | [], _, _, he => by simp at he
  | (k, v) :: t, h, e, he => by
    simp only [tabFind] at h
    split at h
    · simp at h
    · rename_i hp
      rcases List.mem_cons.1 he with rfl | he
      · simpa using hp
      · exact tabFind_none h e he

/-! ## The lowest free place -/

theorem tabFreeFrom_spec : ∀ {t : List (Nat × α)} {n : Nat}, risingFrom n (tabKeys t) = true →
    n ≤ tabFreeFrom t n ∧ tabFreeFrom t n ∉ tabKeys t ∧ tabFreeFrom t n ≤ n + t.length ∧
      ∀ k, n ≤ k → k < tabFreeFrom t n → k ∈ tabKeys t
  | [], n, _ => by simp [tabFreeFrom]
  | (k, v) :: t, n, hr => by
    simp only [tabKeys_cons, risingFrom, Bool.and_eq_true, decide_eq_true_eq] at hr
    unfold tabFreeFrom
    split
    · rename_i h
      subst h
      obtain ⟨h1, h2, h3, h4⟩ := tabFreeFrom_spec hr.2
      refine ⟨by omega, ?_, by simp only [List.length_cons]; omega, fun j hj hlt => ?_⟩
      · simp only [tabKeys_cons, List.mem_cons, not_or]; exact ⟨by omega, h2⟩
      · by_cases hjk : j = k
        · simp [hjk]
        · simp only [tabKeys_cons, List.mem_cons]; exact Or.inr (h4 j (by omega) hlt)
    · rename_i h
      refine ⟨by omega, ?_, by omega, fun j hj hlt => by omega⟩
      simp only [tabKeys_cons, List.mem_cons, not_or]
      exact ⟨fun he => h he.symm, fun hm => by have := risingFrom_le hr.2 n hm; omega⟩

/-- The lowest free place of a table in canonical form is free. -/
theorem tabGet_tabFree {t : List (Nat × α)} (h : risingFrom 0 (tabKeys t) = true) : tabGet t (tabFree t) = none := by
  have hn := (tabFreeFrom_spec h).2.1
  cases hg : tabGet t (tabFree t) with
  | none => rfl
  | some x => exact absurd (List.mem_map_of_mem (f := Prod.fst) (mem_of_tabGet hg)) hn

/-- The lowest free place of a table with room is within its bound. -/
theorem tabFree_lt {t : List (Nat × α)} {bound : Nat} (h : risingFrom 0 (tabKeys t) = true) (hl : t.length < bound) :
    tabFree t < bound := by
  have := (tabFreeFrom_spec h).2.2.1
  unfold tabFree; omega

/-! ## Canonical form -/

theorem tabWf_iff {t : List (Nat × α)} {bound : Nat} :
    tabWf bound t = true ↔ risingFrom 0 (tabKeys t) = true ∧ ∀ k ∈ tabKeys t, k < bound := by
  simp [tabWf]

/-- A put within the bound keeps the canonical form. -/
theorem tabWf_tabPut {t : List (Nat × α)} {bound i : Nat} (x : α) (h : tabWf bound t = true) (hi : i < bound) :
    tabWf bound (tabPut t i x) = true := by
  rw [tabWf_iff] at h ⊢
  rw [tabKeys_tabPut]
  refine ⟨risingFrom_setInsert (Nat.zero_le _) h.1, fun k hk => ?_⟩
  rcases mem_setInsert.1 hk with rfl | hk
  · exact hi
  · exact h.2 k hk

theorem tabKeys_tabErase_mem : ∀ {t : List (Nat × α)} {i k : Nat}, k ∈ tabKeys (tabErase t i) → k ∈ tabKeys t
  | [], _, _, h => h
  | (a, v) :: t, i, k, h => by
    unfold tabErase at h
    split at h
    · exact List.mem_cons_of_mem _ h
    · rcases List.mem_cons.1 h with h | h
      · simp [h]
      · exact List.mem_cons_of_mem _ (tabKeys_tabErase_mem h)

theorem risingFrom_tabErase : ∀ {t : List (Nat × α)} {n : Nat} (i : Nat), risingFrom n (tabKeys t) = true →
    risingFrom n (tabKeys (tabErase t i)) = true
  | [], _, _, _ => rfl
  | (a, v) :: t, n, i, hr => by
    simp only [tabKeys_cons, risingFrom, Bool.and_eq_true, decide_eq_true_eq] at hr
    unfold tabErase
    split
    · exact risingFrom_mono (by omega) hr.2
    · simp only [tabKeys_cons, risingFrom, Bool.and_eq_true, decide_eq_true_eq]
      exact ⟨hr.1, risingFrom_tabErase i hr.2⟩

/-- A removal keeps the canonical form. -/
theorem tabWf_tabErase {t : List (Nat × α)} {bound : Nat} (i : Nat) (h : tabWf bound t = true) :
    tabWf bound (tabErase t i) = true := by
  rw [tabWf_iff] at h ⊢
  exact ⟨risingFrom_tabErase i h.1, fun k hk => h.2 k (tabKeys_tabErase_mem hk)⟩

/-- A change of every entry in place keeps the canonical form. -/
theorem tabWf_tabMap (f : α → β) {t : List (Nat × α)} {bound : Nat} (h : tabWf bound t = true) :
    tabWf bound (tabMap f t) = true := by
  rw [tabWf_iff] at h ⊢
  simpa using h

theorem tabKeys_tabFilterMap_mem (f : α → Option β) : ∀ {t : List (Nat × α)} {k : Nat},
    k ∈ tabKeys (tabFilterMap f t) → k ∈ tabKeys t
  | [], _, h => h
  | (a, v) :: t, k, h => by
    unfold tabFilterMap at h
    split at h
    · rcases List.mem_cons.1 h with h | h
      · simp [h]
      · exact List.mem_cons_of_mem _ (tabKeys_tabFilterMap_mem f h)
    · exact List.mem_cons_of_mem _ (tabKeys_tabFilterMap_mem f h)

theorem risingFrom_tabFilterMap (f : α → Option β) : ∀ {t : List (Nat × α)} {n : Nat},
    risingFrom n (tabKeys t) = true → risingFrom n (tabKeys (tabFilterMap f t)) = true
  | [], _, _ => rfl
  | (a, v) :: t, n, hr => by
    simp only [tabKeys_cons, risingFrom, Bool.and_eq_true, decide_eq_true_eq] at hr
    unfold tabFilterMap
    split
    · simp only [tabKeys_cons, risingFrom, Bool.and_eq_true, decide_eq_true_eq]
      exact ⟨hr.1, risingFrom_tabFilterMap f hr.2⟩
    · exact risingFrom_mono (by omega) (risingFrom_tabFilterMap f hr.2)

/-- A selection keeps the canonical form. -/
theorem tabWf_tabFilterMap (f : α → Option β) {t : List (Nat × α)} {bound : Nat} (h : tabWf bound t = true) :
    tabWf bound (tabFilterMap f t) = true := by
  rw [tabWf_iff] at h ⊢
  exact ⟨risingFrom_tabFilterMap f h.1, fun k hk => h.2 k (tabKeys_tabFilterMap_mem f hk)⟩

theorem tabGet_tabFilterMap (f : α → Option β) : ∀ {t : List (Nat × α)} {n : Nat} (i : Nat),
    risingFrom n (tabKeys t) = true → tabGet (tabFilterMap f t) i = (tabGet t i).bind f
  | [], _, _, _ => rfl
  | (a, v) :: t, n, i, hr => by
    simp only [tabKeys_cons, risingFrom, Bool.and_eq_true, decide_eq_true_eq] at hr
    have ih := tabGet_tabFilterMap f i hr.2
    unfold tabFilterMap
    split
    · rename_i w hw
      simp only [tabGet]
      split
      · simp [hw]
      · exact ih
    · rename_i hw
      simp only [tabGet]
      split
      · rename_i h; subst h
        simp only [Option.bind_some, hw]
        exact tabGet_none_of_lt (risingFrom_tabFilterMap f hr.2) (by omega)
      · exact ih

/-- A member of a table after a put is the entry put or one that stood there. -/
theorem mem_tabPut : ∀ {t : List (Nat × α)} {i : Nat} {x : α} {e : Nat × α}, e ∈ tabPut t i x → e = (i, x) ∨ e ∈ t
  | [], _, _, _, h => by simp only [tabPut, List.mem_cons, List.not_mem_nil, or_false] at h; exact Or.inl h
  | (k, v) :: t, i, x, e, h => by
    unfold tabPut at h
    split at h
    · simpa using h
    · split at h
      · rcases List.mem_cons.1 h with h | h
        · exact Or.inl h
        · exact Or.inr (List.mem_cons_of_mem _ h)
      · rcases List.mem_cons.1 h with h | h
        · exact Or.inr (by simp [h])
        · rcases mem_tabPut h with h | h
          · exact Or.inl h
          · exact Or.inr (List.mem_cons_of_mem _ h)

theorem mem_tabErase : ∀ {t : List (Nat × α)} {i : Nat} {e : Nat × α}, e ∈ tabErase t i → e ∈ t
  | [], _, _, h => h
  | (k, v) :: t, i, e, h => by
    unfold tabErase at h
    split at h
    · exact List.mem_cons_of_mem _ h
    · rcases List.mem_cons.1 h with h | h
      · simp [h]
      · exact List.mem_cons_of_mem _ (mem_tabErase h)

theorem mem_tabMap {f : α → β} {t : List (Nat × α)} {e : Nat × β} (h : e ∈ tabMap f t) :
    ∃ x, (e.1, x) ∈ t ∧ e.2 = f x := by
  obtain ⟨y, hy, rfl⟩ := List.mem_map.1 h
  exact ⟨y.2, hy, rfl⟩

end Sys2Proof.Machine
end

