-- ==== Sys2Proof/Tests/Slice0.lean ====
section
/-! SUPPORT. Tests of the model against the manual's worked examples, and a named witness for the hypotheses of each
statement. Expected results are the manual's, or worked by hand from its tables. -/

namespace Sys2Proof.Tests

set_option Elab.async false

open Sys2Proof Sys2Proof.Machine

/-! ## Small frames, records and states -/

/-- An individual address, 02-00-00-00-00-n. -/
def mac (n : Nat) : Addr := BitVec.ofNat 48 (0x020000000000 + n)

/-- A group address, 03-00-00-00-00-n. -/
def grp (n : Nat) : Addr := BitVec.ofNat 48 (0x030000000000 + n)

/-- Frame bytes: destination, source, zeros up to a length. -/
def body (dst src : Addr) (n : Nat) : List Byte := addrBytes dst ++ addrBytes src ++ List.replicate (n - 12) 0#8

/-- A frame received with its FCS right. -/
def rx (data : List Byte) : RxFrame := ⟨data, fcs data⟩

/-- A frame received with a wrong FCS. -/
def rxBad (data : List Byte) : RxFrame := ⟨data, fcs data ^^^ 1⟩

/-- A lane copy of a 60-byte frame as it is received. -/
def copyOf (dst src : Addr) (l : Lane) (seq : SeqNo) (cls : TrafficClass) : RxFrame :=
  rx (laneCopy l seq cls (body dst src 60)).data

/-- What recognition makes of it. -/
def taggedOf (dst src : Addr) (l : Lane) (seq : SeqNo) (cls : TrafficClass) : Tagged :=
  ⟨src, dst, seq, l, cls, body dst src 60⟩

/-- The factory learned profile as settings. -/
def plainCfg : OriginSettings := learnedSettings factoryGlobals.profile

/-- A learned record that has had no copy: Silent, its forget timer running. -/
def silentRec (a : Addr) : Origin := Origin.learn factoryGlobals.profile a (.frameOn .a)

/-- A configured record of master 1 that has had no copy. -/
def ownedRec (a : Addr) : Origin := Origin.fresh a ⟨true, false⟩ plainCfg

/-- The record with its window seeded at a sequence, Paired, its silence timer running, these open pairs. -/
def heard (seq : SeqNo) (pairs : List OpenPair) (r : Origin) : Origin :=
  { r with win := ⟨true, seq, 3, pairs, 0⟩, lane := { r.lane with state := .paired }, silence := some 100,
           notif := { r.notif with lane := .paired } }

/-- A Confirmed line port A, a Probing port B, both bay ports Link-up with stations 1 and 2, two groups. -/
def live : State :=
  { State.reset with
    station := mac 0, tick := 1000, quiet := none, rollTimer := some 10,
    lines := ⟨{ LinePort.reset with state := .confirmed },
              { LinePort.reset with state := .probing, probe := some 3 }⟩,
    bays := ⟨{ BayPort.reset with up := true, station := some (mac 1) },
             { BayPort.reset with up := true, station := some (mac 2) }⟩,
    groups := [(0, ⟨grp 1, .sample, ⟨true, true⟩⟩), (1, ⟨grp 2, .trip, ⟨true, true⟩⟩)] }

/-- Records 0 (a lead of master 1, heard), 1 (its member, with an open pair), 2 (learned, Silent), 3 (learned,
heard). -/
def busy : State :=
  { live with
    origins := [(0, heard 9 [] (ownedRec (mac 10))),
                (1, heard 9 [⟨8, .a, 900, 100900⟩] { ownedRec (mac 11) with cfg := { plainCfg with ref := some 0 } }),
                (2, silentRec (mac 12)),
                (3, heard 9 [⟨9, .a, 950, 100950⟩] (silentRec (mac 13)))],
    silentOrder := [2], pending := [.secondsTick] }

/-- A table of 256 records, of which the learned one at index 7 alone is Silent. -/
def fullTable : List (Nat × Origin) :=
  (List.range 256).map fun i => (i, if i = 7 then silentRec (mac 7) else heard 9 [] (ownedRec (mac i)))

/-- A part with a full table. -/
def crowded : State := { live with station := mac 1000, bays := ⟨live.bays.one, { live.bays.two with station := none }⟩,
                                   origins := fullTable, silentOrder := [7] }

/-- The silent order of a state is exact when it names only learned Silent records and every one of them. -/
theorem silentOrderExact_of_check {s : State} (h1 : s.silentOrder.Nodup)
    (h2 : ∀ i ∈ s.silentOrder, ((originAt s i).any fun r => r.learned && decide (r.lane.state = .silent)) = true)
    (h3 : ∀ e ∈ s.origins, e.2.learned = true → e.2.lane.state = .silent → e.1 ∈ s.silentOrder) :
    SilentOrderExact s := by
  refine ⟨h1, fun i => ⟨fun hi => ?_, fun ⟨r, hr, hl, hs⟩ => h3 _ (mem_of_tabGet hr) hl hs⟩⟩
  have h := h2 i hi
  cases ho : originAt s i with
  | none => simp [ho] at h
  | some r => exact ⟨r, rfl, by simpa [ho] using h⟩

/-! ## What is well formed -/

/-- A command takes at most 64 argument bytes. -/
theorem test_wf_refuses_65_bytes : (Instr.stage .m1 (.taken (List.replicate 65 0#8))).wf = false := by decide

/-- A length byte at which arguments still follow is no overlong one. -/
theorem test_wf_refuses_length_64_as_overlong : (Instr.identify .m1 (.overlong 64#8)).wf = false := by decide

theorem test_wf_refuses_known_code_as_unknown :
    (Instr.unknownCommand .m2 0x12#8 (.taken [])).wf = false ∧ (Instr.unknownCommand .m2 0x01#8 (.taken [])).wf = false ∧
      (Instr.unknownCommand .m2 0x13#8 (.taken [])).wf = true := by decide

/-- A period without a byte is not cut, and one that ends with the last argument byte took its command. -/
theorem test_wf_refuses_uncut_periods :
    (Instr.cutTransaction .m1 []).wf = false ∧ (Instr.cutTransaction .m1 [0x0C#8, 1#8, 0#8]).wf = false ∧
      (Instr.cutTransaction .m1 [0x0C#8, 2#8, 0#8]).wf = true := by decide

theorem test_wf_refuses_index_256 :
    (Instr.pairExpiry 256).wf = false ∧ (Instr.silenceExpiry 256).wf = false ∧ (Instr.forgetExpiry 256).wf = false ∧
      (Instr.holdExpiry 256).wf = false ∧ (Instr.holdExpiry 255).wf = true := by decide

/-! ## Framing (chapter 1, 1.7) -/

/-- Select periods by the byte positions of section 1.7: IDENTIFY taken at byte 1, READ ORIGIN at byte 3 with a byte
ignored after it, a length above 64, an unknown code with one argument, and a period cut at its last argument. -/
theorem test_select_periods :
    periodRow .m1 [0x01#8, 0#8] = some (.identify .m1 (.taken [])) ∧
      periodRow .m2 [0x02#8, 2#8, 3#8, 0#8, 0xAA#8] = some (.readOrigin .m2 (.taken [3#8, 0#8])) ∧
      periodRow .m1 [0x07#8, 65#8, 1#8] = some (.stage .m1 (.overlong 65#8)) ∧
      periodRow .m1 [0x13#8, 1#8, 9#8] = some (.unknownCommand .m1 0x13#8 (.taken [9#8])) ∧
      periodRow .m1 [0x0C#8, 2#8, 0#8] = some (.cutTransaction .m1 [0x0C#8, 2#8, 0#8]) ∧ periodRow .m1 [] = none := by
  decide +kernel

/-- After SET EVENT MASK with one byte too few the link drives FFh FFh 04h 00h, and FFh after and on an idle link. -/
theorem test_link_drives :
    let c := (setMaskEffect .m1 (.taken [0#8]) live).links.one
    (List.range 6).map c.drives = [0xFF#8, 0xFF#8, 0x04#8, 0x00#8, 0xFF#8, 0xFF#8] ∧
      live.links.one.drives 2 = 0xFF#8 := by decide +kernel

/-! ## Frames and trailers (chapter 1) -/

/-- The CRC-32 check value of the bytes "123456789". -/
theorem test_fcs_check_value :
    fcs [0x31#8, 0x32#8, 0x33#8, 0x34#8, 0x35#8, 0x36#8, 0x37#8, 0x38#8, 0x39#8] = 0xCBF43926#32 := by decide +kernel

/-- Worked trailer: sequence 1,234, sample, lane B, span 118 (chapter 1, 1.3). -/
theorem test_trailer_bytes :
    trailerBytes 1234 .b .sample 118 =
      [0x04#8, 0xD2#8, 0x92#8, 0x00#8, 0x76#8, 0xB5#8, 0x2E#8, 0x71#8] := by decide +kernel

theorem test_trailer_decodes :
    recognise (body (mac 1) (mac 9) 118 ++ [0x04#8, 0xD2#8, 0x92#8, 0x00#8, 0x76#8, 0xB5#8, 0x2E#8, 0x71#8]) =
      .tagged ⟨mac 9, mac 1, 1234, .b, .sample, body (mac 1) (mac 9) 118⟩ := by decide +kernel

/-- The variant with descriptor 12h, lane code 00. -/
theorem test_trailer_mismatch :
    recognise (body (mac 1) (mac 9) 118 ++ [0x04#8, 0xD2#8, 0x12#8, 0x00#8, 0x76#8, 0xB5#8, 0x2E#8, 0x71#8]) =
      .mismatch := by decide +kernel

/-- The worked roll-call's bytes 12 to 17 and its two trailers. -/
theorem test_roll_call :
    slice (rollCallBody (mac 0) 10 [mac 1, mac 2]) 12 6 = [0x9A#8, 0x73#8, 0x01#8, 0x01#8, 0x0A#8, 0x02#8] ∧
      trailerBytes 77 .a .rollCall 60 = [0x00#8, 0x4D#8, 0x72#8, 0x00#8, 0x3C#8, 0xB5#8, 0x2E#8, 0x71#8] ∧
      trailerBytes 77 .b .rollCall 60 = [0x00#8, 0x4D#8, 0xB2#8, 0x00#8, 0x3C#8, 0xB5#8, 0x2E#8, 0x71#8] := by
  decide +kernel

/-! ## Judgment (chapter 4) -/

/-- The worked distances from 10,000. -/
theorem test_worked_distances :
    place 10000 10200 = .newer 200 ∧ place 10000 10000 = .inside 0 ∧ place 10000 9937 = .inside 63 ∧
      place 10000 9936 = .stale ∧ place 10000 0 = .stale ∧ place 10000 42767 = .newer 32767 ∧
      place 10000 42768 = .stale ∧ place 65530 3 = .newer 9 ∧ place 40000 0 = .newer 25536 := by decide +kernel

/-- The settings of the worked runs: loss limit 2, pair timeout 8 ms. -/
def runSettings : JudgeSettings := ⟨2, 8⟩

/-- The worked run of a restarted sender: two stale discards, then a resync at 1. -/
theorem test_sender_restart :
    let c0 : Closing := ⟨live.lines, heard 10000 [] (silentRec (mac 9))⟩
    let j1 := judge runSettings ⟨.a, 0, 10⟩ c0
    let j2 := judge runSettings ⟨.b, 0, 20⟩ j1.closing
    let j3 := judge runSettings ⟨.a, 1, 30⟩ j2.closing
    j1.verdict = .staleDiscard ∧ j2.verdict = .staleDiscard ∧ j2.closing.orig.win.staleRun = 2 ∧
      j3.verdict = .resync ∧ j3.closing.orig.win = ⟨true, 1, 1, [⟨1, .a, 30, 80030⟩], 0⟩ ∧
      (judge runSettings ⟨.b, 1, 40⟩ j3.closing).verdict = .twin := by decide +kernel

/-- The worked cable cut: the pair of 102 closes missing B while port B is still up. -/
theorem test_pair_expiry_charges_lane_b :
    let r := heard 102 [⟨102, .a, 100000, 180000⟩] (ownedRec (mac 9))
    let c := Closing.expirePair 2 ⟨102, .a, 100000, 180000⟩ ⟨live.lines, r⟩
    c.orig.lane.miss = ⟨0, 1⟩ ∧ c.orig.cnt.missB = 1 ∧ c.orig.lane.state = .paired ∧ c.orig.win.pairs = [] := by
  decide +kernel

/-! ## Skew (chapter 5) -/

/-- The worked roundings. -/
theorem test_worked_rounding :
    filterStep 2 2000 1852 = 1963 ∧ filterStep 2 2000 1850 = 1962 ∧ filterStep 2 2000 2150 = 2037 ∧
      filterStep 2 (-400) (-403) = -401 ∧ filterStep 2 (-400) (-397) = -400 := by decide

/-- The worked lane B reroute, pairs 1 to 4. -/
theorem test_reroute :
    let cfg := { plainCfg with k := 2, j := 3, m := 1, t1 := 40, t2 := 80, t3 := 200, c := 1, spike := 500 }
    let r0 := { ownedRec (mac 9) with cfg := cfg, pipe := Pipeline.fresh cfg }
    let r1 := (processPair .eighth none .a 1000000 1000120 r0).1
    let r2 := (processPair .eighth none .a 2000000 2000126 r1).1
    let r3 := (processPair .eighth none .a 3000000 3001900 r2).1
    let r4 := (processPair .eighth none .a 4000000 4001900 r3).1
    r1.pipe = ⟨true, 1920, 1920, 0, 0, .neither, .steady, .steady, 1, 0, none⟩ ∧
      r2.pipe = ⟨true, 1944, 1923, 21, 21, .bLate, .steady, .steady, 1, 0, none⟩ ∧
      r3.pipe = ⟨true, 3944, 2175, 1769, 1769, .bLate, .excess, .excess, 0, 0, some 40⟩ ∧
      r4.pipe = ⟨true, 5944, 2175, 3769, 3769, .bLate, .gross, .gross, 0, 0, some 40⟩ ∧ r4.cnt.spikes = 2 := by
  decide +kernel

/-- A reseed of an unseeded Manual record put to Auto: R99 keeps the baseline, and R101 changes nothing; a seeded one's
baseline becomes 0. -/
theorem test_reseed :
    let old := { plainCfg with mode := .manual, manual := 160 }
    let r := { ownedRec (mac 9) with cfg := old, pipe := Pipeline.fresh old }
    (r.reconfigure plainCfg true).pipe.baseline = 160 ∧
      ({ r with pipe := { r.pipe with seeded := true } }.reconfigure plainCfg true).pipe.baseline = 0 := by
  decide +kernel

/-! ## Sending, apply, links and store (chapters 2, 9, 10, 11) -/

/-- A relay frame in the start quiet, while the other bay port is Link-down (chapter 2's worked sequence, F1). -/
theorem test_relay_frame_in_the_quiet :
    let s := { State.reset with bays := ⟨{ BayPort.reset with up := true }, .reset⟩ }
    (bayFrameEffect .m1 (rx (body (grp 1) (mac 1) 60)) s).bays.one =
      { BayPort.reset with up := true, station := some (mac 1), cnt := { BayCounts.zero with quiet := 1 } } := by
  decide +kernel

/-- R157's examples of clamping. -/
theorem test_clamping :
    let f : PutFields := ⟨.auto, 0, 7, 2, 8, 0, 10, 40000, 2, 500, true, true, 0, none, 200, false, 100, false⟩
    f.clamped = { f with k := 4, j := 4, t1 := 1, t3 := 32767, hold := 1, weight := 128 } ∧
      globalClamp .lossLimit 20 = 15 ∧ globalClamp .linkFailTime 60 = 100 ∧ globalClamp .linkFailTime 12 = 5 := by
  decide +kernel

/-- Master 1's worked apply: promotion in place, creation with a reference and a clamp, a join; then master 2's is
refused CLASS-CONFLICT at item 1. -/
theorem test_two_masters_apply :
    let f : PutFields := ⟨.capture, 0, 2, 7, 8, 50, 200, 1000, 2, 500, true, true, 40, none, 0, true, 100, false⟩
    let g : PutFields := { f with mode := .auto, ref := some (mac 21), weight := 64, k := 9, suppress := false }
    let s := { live with
      origins := [(0, heard 9 [] (silentRec (mac 21)))], groups := [(0, ⟨grp 1, .sample, ⟨true, false⟩⟩)],
      staging := ⟨[.originPut (mac 21) f, .originPut (mac 22) g, .groupJoin (grp 1) .sample], [.groupJoin (grp 1) .trip]⟩,
      applyPending := ⟨true, true⟩ }
    let t := applyTakenEffect s
    let u := applyTakenEffect t
    t.applyResult.one = .clamped 3 2 ∧ t.links.two.changes = [0, 1] ∧ hasKind t.links.two.flags .applyDone = false ∧
      ((originAt t 1).map fun r => (r.owners, r.cfg.ref, r.cfg.k)) = some (⟨true, false⟩, some 0, 4) ∧
      u.applyResult.two = .refused .classConflict 1 ∧ u.staging.two.length = 1 ∧ u.groups = s.groups := by decide +kernel

/-- The worked service: READ CHANGES returns 16 indices and leaves 2. -/
theorem test_read_changes :
    let c := { ControlLink.reset with
      changes := [3, 7, 9, 12, 14, 20, 21, 22, 30, 31, 40, 41, 52, 60, 61, 70, 88, 90] }
    let t := readChangesEffect .m1 (.taken []) { live with links := ⟨c, c⟩ }
    t.links.one.changes = [88, 90] ∧ t.links.two.changes.length = 18 ∧
      (t.links.one.answer.map fun x => x.results.take 4) = some [16#8, 0#8, 2#8, 3#8] := by decide +kernel

/-- The worked save overtaken by a reset: the half-written set is rejected and set 0 is loaded. -/
theorem test_save_overtaken_by_reset :
    let s := { live with set1 := ⟨factorySet, true, true⟩, startSet := .s2, set2 := ⟨factorySet, false, false⟩,
                         save := some ⟨.u2, .m2, factorySet⟩ }
    let t := powerReset ⟨false, false, false, false⟩ s
    t.save = none ∧ t.set2.valid = false ∧ t.set1.valid = true ∧ t.startSet = .s2 ∧ t.links.one.flags = 0x0600#16 := by
  decide +kernel

/-! ## Witnesses: for each statement with hypotheses, states and operands that meet them together -/

/-- O2. -/
theorem witness_O2 : State.reset.pending = [] := rfl

/-- O4: one command inside every clause's premises. -/
theorem witness_O4 :
    (∃ t, exec (.glitch .a) live = .next t) ∧ (∀ p, Instr.glitch .a ≠ .powerOn p) ∧
      (∀ p, Instr.glitch .a ≠ .resetPin p) ∧ (∀ p, Instr.glitch .a ≠ .restartTakesEffect p) ∧
      Instr.glitch .a ≠ .applyTaken ∧ Instr.glitch .a ≠ .secondsTick ∧ (∀ v, Instr.glitch .a ≠ .saveCompletion v) ∧
      (∀ m x, Instr.glitch .a ≠ .saveSet m x) ∧ (∀ m x, Instr.glitch .a ≠ .selectStartSet m x) := by
  refine ⟨⟨_, rfl⟩, ?_⟩
  simp

/-- O5. -/
theorem witness_O5 :
    (Instr.setEventMask .m2 (.taken [7#8, 255#8])).link = some .m2 ∧
      ∃ t, exec (.setEventMask .m2 (.taken [7#8, 255#8])) busy = .next t := ⟨rfl, _, rfl⟩

/-- O6: the first part by a refused command, each clause of the second by the same one. -/
theorem witness_O6 :
    (∃ t x, exec (.ackEvents .m1 (.taken [1#8])) busy = .next t ∧ (t.links.get .m1).answer = some x ∧ x.status ≠ .ok) ∧
      (Instr.ackEvents .m1 (.overlong 65)).link = some .m1 ∧
      (Instr.ackEvents .m1 (.overlong 65)).args = some (.overlong 65) ∧
      (Instr.ackEvents .m1 (.overlong 65)).fixedLength = some 2 ∧
      (List.replicate 64 0#8).length ≤ 64 ∧ { busy with ready := false }.ready = false ∧ busy.ready = true ∧
      (List.replicate 64 0#8).length ≠ 2 := by
  refine ⟨⟨_, ⟨.badLength, []⟩, rfl, ?_⟩, ?_⟩ <;> decide +kernel

/-- O6: select periods and links for its framing clauses, at lengths 0, 64 and 65. -/
theorem witness_O6_framing :
    isCut [0x0C#8, 2#8, 0#8] = true ∧ 64 < (65#8).toNat ∧
      ((64#8).toNat ≤ 64 ∧ (64#8).toNat ≤ (List.replicate 64 0#8).length) ∧ ((0#8).toNat ≤ ([] : List Byte).length) ∧
      18 < (0x13#8).toNat ∧ (Instr.identify .m1 (.taken [])).wf = true ∧
      (Instr.identify .m1 (.taken [])).commandByte = some 0x01#8 ∧ State.reset.links.one.framing ≠ .answering ∧
      (setMaskEffect .m1 (.taken [0#8]) live).links.one.framing = .answering ∧
      (setMaskEffect .m1 (.taken [0#8]) live).links.one.answer = some ⟨.badLength, []⟩ := by decide +kernel

/-- O8 to O15: a state with records of all kinds that meets every invariant, and its step. -/
theorem witness_step : ∃ t, step busy = .next t := ⟨_, rfl⟩

theorem witness_O8 : QueuesBounded busy := by
  unfold QueuesBounded LinePort.queuesFit BayPort.queuesFit; decide +kernel

theorem witness_O9 :
    PortsConsistent busy ∧ QuietHolds busy ∧ AlertTimed busy ∧ StagingBounded busy ∧ SaveInvalidates busy := by
  refine ⟨?_, ?_, ?_, ?_, ?_⟩
  · refine ⟨?_, ?_, ?_, ?_⟩ <;> first | (unfold LinePort.consistent; decide +kernel) | (unfold BayPort.consistent; decide +kernel)
  · unfold QuietHolds; decide +kernel
  · unfold AlertTimed; decide +kernel
  · unfold StagingBounded; decide +kernel
  · intro r h; cases h

/-- A save in flight and an alert, for the clauses that busy meets emptily. -/
theorem witness_O9_active :
    let s := { busy with alert := .alert, alertHold := some 20, quiet := some 15, rollTimer := none,
                         save := some ⟨.u1, .m2, factorySet⟩ }
    AlertTimed s ∧ QuietHolds s ∧ SaveInvalidates s := by
  refine ⟨?_, ?_, ?_⟩
  · unfold AlertTimed; decide +kernel
  · unfold QuietHolds; decide +kernel
  · intro r h; cases h; decide +kernel

theorem witness_O10 : WindowsSound busy := by
  unfold WindowsSound Origin.judgeable Window.sound; decide +kernel

theorem witness_O11 : LaneStatesCurrent busy := by unfold LaneStatesCurrent; decide +kernel

theorem witness_O12 : SkewBounded busy := by
  refine ⟨?_, ?_, ?_, fun r h => by cases h⟩
  · unfold Origin.skewInRange skewFits; decide +kernel
  · unfold SetContent.manualFits skewFits; decide +kernel
  · unfold SetContent.manualFits skewFits; decide +kernel

/-- O12: the settings of a part with an item staged at its limit. -/
theorem witness_O12_settings : SettingsInRange { busy with staging := ⟨[.bayPut .gap 65535], []⟩ } := by
  refine ⟨?_, ?_, ?_, ⟨?_, ?_, fun r h => by cases h⟩, ?_, fun it h => by cases h⟩
  · have h : ∀ e ∈ busy.origins, e.2.cfg.inRange ∧ ∀ n ∈ e.2.forgetTime, 1 ≤ n ∧ n ≤ 255 := by
      unfold OriginSettings.inRange; decide +kernel
    exact fun e he => ⟨(h e he).1, fun n hn => (h e he).2 n hn⟩
  · unfold Globals.inRange Profile.inRange OriginSettings.inRange; decide +kernel
  · unfold gapsInRange; decide +kernel
  · unfold SetContent.inRange Globals.inRange Profile.inRange OriginSettings.inRange gapsInRange; decide +kernel
  · unfold SetContent.inRange Globals.inRange Profile.inRange OriginSettings.inRange gapsInRange; decide +kernel
  · intro it h
    obtain rfl : it = .bayPut .gap 65535 := by simpa using h
    unfold Item.fits; decide +kernel

theorem witness_O13 : HoldTimersMatch busy := by unfold HoldTimersMatch Origin.holdMatches; decide +kernel

theorem witness_O14 : KindsSound busy := by
  refine ⟨?_, ?_, ?_, fun r h => by cases h⟩
  · unfold Origin.kindSound; decide +kernel
  · unfold SetContent.owned; decide +kernel
  · unfold SetContent.owned; decide +kernel

theorem witness_silent_order : SilentOrderExact busy :=
  silentOrderExact_of_check (by decide) (by decide +kernel) (by decide +kernel)

theorem witness_references : ReferencesSound busy := by
  have h : ∀ e ∈ busy.origins, ∀ j ∈ e.2.cfg.ref, j = 0 ∧ e.1 ≠ 0 := by decide +kernel
  have h0 : originAt busy 0 = some (heard 9 [] (ownedRec (mac 10))) := rfl
  refine ⟨fun i r hr j hj => ?_, ?_, ?_, fun r h => by cases h⟩
  · obtain ⟨rfl, hi⟩ := h _ (mem_of_tabGet hr) j hj
    exact ⟨Ne.symm hi, _, h0, by decide +kernel, by decide +kernel⟩
  · intro i r hr; cases hr
  · intro i r hr; cases hr

theorem witness_O15 : TablesSound busy := by
  refine ⟨⟨by decide +kernel, ?_, ?_, ?_, fun r h => by cases h⟩, ⟨?_, ?_, ?_, ?_, fun r h => by cases h⟩, witness_O10,
    witness_O14, witness_silent_order, witness_references, ?_, ?_⟩
  · unfold groupsSound; decide +kernel
  · unfold SetContent.canonical groupsSound; decide +kernel
  · unfold SetContent.canonical groupsSound; decide +kernel
  · unfold addrsUnique; decide +kernel
  · unfold addrsUnique; decide +kernel
  · unfold SetContent.addrsUnique addrsUnique; decide +kernel
  · unfold SetContent.addrsUnique addrsUnique; decide +kernel
  · exact ⟨.inl rfl, by decide +kernel, by decide +kernel, by decide +kernel, by decide +kernel, fun x h => by cases h⟩
  · exact ⟨.inl rfl, by decide +kernel, by decide +kernel, by decide +kernel, by decide +kernel, fun x h => by cases h⟩

/-- O16: bodies of both limits. -/
theorem witness_O16 :
    60 ≤ (body (mac 1) (mac 9) 60).length ∧ (body (mac 1) (mac 9) 60).length ≤ 1514 ∧
      60 ≤ (List.replicate 1514 0#8).length ∧ (List.replicate 1514 0#8).length ≤ 1514 := by decide +kernel

/-- O17: a frame of 8 bytes without the marker, one whose marker stands alone, and a tagged one. -/
theorem witness_O17 :
    slice ((List.replicate 8 0#8).drop (8 - 8)) 5 3 ≠ [0xB5#8, 0x2E#8, 0x71#8] ∧
      (let d := (List.replicate 5 0#8) ++ [0xB5#8, 0x2E#8, 0x71#8]
       d.length = 8 ∧ slice (d.drop 0) 5 3 = [0xB5#8, 0x2E#8, 0x71#8] ∧ ¬ 68 ≤ d.length) ∧
      (let d := (laneCopy .b 7 .trip (body (mac 1) (mac 9) 60)).data
       let tr := d.drop (d.length - 8)
       slice tr 5 3 = [0xB5#8, 0x2E#8, 0x71#8] ∧ 68 ≤ d.length ∧ numAt tr 2 1 % 16 = 2 ∧
         (numAt tr 2 1 / 64 = 1 ∨ numAt tr 2 1 / 64 = 2) ∧ numAt tr 3 2 = d.length - 8) := by decide +kernel

/-- O18: the largest interval of a byte and two proxies. -/
theorem witness_O18 : 255 < 256 ∧ [mac 1, mac 2].length ≤ 2 := by decide

/-- O18: a received roll-call of 60 bytes with eight proxies, the last at bytes 60 to 65, is one proxy short; one of
66 bytes passes, its last proxy read at byte 60; a count of nine fails. -/
theorem witness_O18_received :
    let roll := fun (count : Byte) (n : Nat) =>
      addrBytes Config.rollCallGroup ++ addrBytes (mac 9) ++ [0x9A#8, 0x73#8, 1#8, 0#8, 10#8, count] ++
        ((List.range n).map fun k => addrBytes (mac (20 + k))).flatten
    RollCallPasses (roll 8#8 8) ∧ proxiesOf (roll 8#8 8) = (List.range 8).map (fun k => mac (20 + k)) ∧
      (roll 8#8 7).length = 60 ∧ ¬ RollCallPasses (roll 8#8 7) ∧ ¬ RollCallPasses (roll 9#8 9) := by
  unfold RollCallPasses; decide +kernel

/-- O19: a Down port, a bad frame (FCS, too short, too long) on ports with link, an echo. -/
theorem witness_O19 :
    (State.reset.lines.get .a).state = .down ∧ (live.lines.get .b).state ≠ .down ∧ (live.bays.get .m1).up = true ∧
      (State.reset.bays.get .m2).up = false ∧
      ¬ (rxBad (body (mac 1) (mac 9) 60)).fcs = fcs (rxBad (body (mac 1) (mac 9) 60)).data ∧
      ¬ 60 ≤ (rx (List.replicate 59 0#8)).data.length ∧ ¬ (rx (List.replicate 1523 0#8)).data.length ≤ 1522 ∧
      frameGood (copyOf (mac 1) (mac 0) .a 5 .bulk) = true ∧
      recognise (copyOf (mac 1) (mac 0) .a 5 .bulk).data = .tagged (taggedOf (mac 1) (mac 0) .a 5 .bulk) ∧
      (taggedOf (mac 1) (mac 0) .a 5 .bulk).source = live.station := by decide +kernel

/-- What O20 to O23 ask of a tagged frame on a lane. -/
def arrives (s : State) (l : Lane) (f : RxFrame) (t : Tagged) : Prop :=
  (s.lines.get l).state ≠ .down ∧ frameGood f = true ∧ recognise f.data = .tagged t ∧
    ¬ (t.source = s.station ∨ s.bays.one.station = some t.source ∨ s.bays.two.station = some t.source)

/-- O20: a group source, learning off, and a full table with nothing Silent. -/
theorem witness_O20 :
    (arrives live .a (copyOf (mac 1) (grp 9) .a 5 .trip) (taggedOf (mac 1) (grp 9) .a 5 .trip) ∧
      findOrigin live (grp 9) = none ∧ groupBit (grp 9) = true) ∧
    (let s := { live with globals := { factoryGlobals with learning := false } }
     arrives s .b (copyOf (mac 1) (mac 9) .b 5 .bulk) (taggedOf (mac 1) (mac 9) .b 5 .bulk) ∧
      findOrigin s (mac 9) = none ∧ s.globals.learning = false) ∧
    (let s := { crowded with silentOrder := [] }
     arrives s .a (copyOf (mac 1) (mac 500) .a 5 .trip) (taggedOf (mac 1) (mac 500) .a 5 .trip) ∧
      findOrigin s (mac 500) = none ∧ 256 ≤ s.origins.length ∧ s.silentOrder = []) := by
  unfold arrives; decide +kernel

/-- A tagged roll-call of a source, with its body, as it is received. -/
def rollCopy (src : Addr) (b : List Byte) (l : Lane) (seq : SeqNo) : RxFrame × Tagged :=
  (rx (laneCopy l seq .rollCall b).data, ⟨src, destOf b, seq, l, .rollCall, b⟩)

/-- O20 and O21: an unlearned trip frame for the roll-call group, and roll-calls that pass and that fail a check, from
a source without a record and from record 3. -/
theorem witness_handed_on :
    let s := { busy with globals := { factoryGlobals with learning := false } }
    let good := fun a => rollCallBody a 10 [mac 12]
    arrives s .b (copyOf Config.rollCallGroup (mac 9) .b 5 .trip) (taggedOf Config.rollCallGroup (mac 9) .b 5 .trip) ∧
      arrives s .b (rollCopy (mac 9) (good (mac 9)) .b 5).1 (rollCopy (mac 9) (good (mac 9)) .b 5).2 ∧
      RollCallPasses (good (mac 9)) ∧
      arrives s .b (rollCopy (mac 9) (body (mac 1) (mac 9) 60) .b 5).1 (rollCopy (mac 9) (body (mac 1) (mac 9) 60) .b 5).2 ∧
      ¬ RollCallPasses (body (mac 1) (mac 9) 60) ∧ findOrigin s (mac 9) = none ∧
      arrives s .b (rollCopy (mac 13) (good (mac 13)) .b 10).1 (rollCopy (mac 13) (good (mac 13)) .b 10).2 := by
  unfold arrives RollCallPasses; decide +kernel

/-- O21: the twin of member 1's open pair, which completes it with its lead's raw deviation. -/
theorem witness_O21_twin :
    arrives busy .b (copyOf (mac 1) (mac 11) .b 8 .trip) (taggedOf (mac 1) (mac 11) .b 8 .trip) ∧
      ((findOrigin busy (mac 11)).map fun x =>
        (x.2.cfg.ref, (judge ⟨3, 10⟩ ⟨.b, 8, busy.tick⟩ ⟨busy.lines, x.2⟩).completed)) =
        some (some 0, some ⟨8, .a, 900, 100900⟩) := by
  unfold arrives; decide +kernel

/-- O21: a copy of record 3, accepted; and its twin, which is not. -/
theorem witness_O21 :
    arrives busy .b (copyOf (mac 1) (mac 13) .b 10 .trip) (taggedOf (mac 1) (mac 13) .b 10 .trip) ∧
      tabWf 256 busy.origins = true ∧ (findOrigin busy (mac 13)).map Prod.fst = some 3 ∧
      arrives busy .b (copyOf (mac 1) (mac 13) .b 9 .trip) (taggedOf (mac 1) (mac 13) .b 9 .trip) ∧
      ((findOrigin busy (mac 13)).map fun x => (judge ⟨3, 10⟩ ⟨.b, 9, busy.tick⟩ ⟨busy.lines, x.2⟩).verdict.accepted) =
        some false := by
  unfold arrives; decide +kernel

/-- O22: an empty table, and one of 255 records. -/
theorem witness_O22 :
    (arrives live .a (copyOf (mac 1) (mac 9) .a 5 .sample) (taggedOf (mac 1) (mac 9) .a 5 .sample) ∧
      tabWf 256 live.origins = true ∧ findOrigin live (mac 9) = none ∧ groupBit (mac 9) = false ∧
      live.globals.learning = true ∧ live.origins.length < 256 ∧ 1 ≤ live.globals.lossLimit) ∧
    (let s := { crowded with origins := tabErase fullTable 7, silentOrder := [] }
     arrives s .b (copyOf (mac 1) (mac 500) .b 5 .sample) (taggedOf (mac 1) (mac 500) .b 5 .sample) ∧
      tabWf 256 s.origins = true ∧ findOrigin s (mac 500) = none ∧ groupBit (mac 500) = false ∧
      s.globals.learning = true ∧ s.origins.length = 255 ∧ 1 ≤ s.globals.lossLimit) := by
  unfold arrives; decide +kernel

/-- O23. -/
theorem witness_O23 :
    (arrives crowded .a (copyOf (mac 1) (mac 500) .a 5 .sample) (taggedOf (mac 1) (mac 500) .a 5 .sample) ∧
      tabWf 256 crowded.origins = true ∧ findOrigin crowded (mac 500) = none ∧ groupBit (mac 500) = false ∧
      crowded.globals.learning = true ∧ 256 ≤ crowded.origins.length ∧ crowded.silentOrder = 7 :: []) ∧
    SilentOrderExact crowded := by
  refine ⟨by unfold arrives; decide +kernel, silentOrderExact_of_check (by decide) (by decide +kernel) (by decide +kernel)⟩

/-- O24: record 2 with its silence timer stopped, and record 3 with one running and another notified lane state. -/
theorem witness_O24 :
    ((originAt busy 2).map fun r => r.silence) = some none ∧
      ((originAt busy 3).map fun r => (r.silence, r.notif.lane, r.learned)) = some (some 100, .paired, true) ∧
      tabWf 256 busy.origins = true := by
  decide +kernel

/-- O25: record 0 without a forget timer, record 3 with one, in a canonical table. -/
theorem witness_O25 :
    ((originAt busy 0).map fun r => r.forget) = some none ∧ ((originAt busy 3).map fun r => r.forget) = some (some 30) ∧
      tabWf 256 busy.origins = true ∧ 2 ≠ 3 := by decide +kernel

/-- O26: the pair of record 1, with the missing lane's port Probing, Down and Settling. -/
theorem witness_O26 :
    ((originAt busy 1).map fun r => firstDue r.win.pairs) = some (some ⟨8, .a, 900, 100900⟩) ∧
      ¬ ((busy.lines.get .b).state = .down ∨ (busy.lines.get .b).state = .settling) ∧
      (State.reset.lines.get .b).state = .down ∧ tabWf 256 busy.origins = true ∧
      ({ LinePort.reset with state := .settling } : LinePort).state = .settling ∧
      (let ps : List OpenPair := [⟨1, .a, 9, 3⟩, ⟨2, .a, 1, 4294967290⟩, ⟨3, .b, 2, 4294967290⟩]
       ps ≠ [] ∧ (∀ q ∈ ps, (q.expiry - 4294967280).toNat < 2147483648) ∧
         firstDue ps = some ⟨2, .a, 1, 4294967290⟩) := by decide +kernel

/-- O27: a hold timer stopped, one that never expires, and a running one. -/
theorem witness_O27 :
    ((originAt busy 0).map fun r => r.pipe.hold) = some none ∧
      (let r := { ownedRec (mac 9) with pipe := { Pipeline.fresh plainCfg with level := .gross, hold := some 255 } }
       originAt { live with origins := [(4, r)] } 4 = some r ∧ r.pipe.hold = some 255) ∧
      (let r := { ownedRec (mac 9) with pipe := { Pipeline.fresh plainCfg with level := .excess, hold := some 40 } }
       originAt { live with origins := [(4, r)] } 4 = some r ∧ r.pipe.hold = some 40 ∧ 40 ≠ 255 ∧
         tabWf 256 [(4, r)] = true) := by decide +kernel

/-- O28: one proxy for each row. -/
theorem witness_O28 :
    ((findOrigin busy (mac 12)).map fun x => x.2.owners) = some ⟨false, false⟩ ∧
      ((findOrigin busy (mac 10)).map fun x => x.2.owners) = some ⟨true, false⟩ ∧
      (findOrigin busy (mac 1) = none ∧ busy.bays.one.station = some (mac 1)) ∧
      (findOrigin busy (grp 1) = none ∧ groupBit (grp 1) = true) ∧
      (findOrigin crowded (mac 500) = none ∧ 256 ≤ crowded.origins.length ∧ groupBit (mac 500) = false) ∧
      (findOrigin busy (mac 500) = none ∧ busy.globals.learning = true ∧ ¬ 256 ≤ busy.origins.length ∧
        tabWf 256 busy.origins = true ∧
        ¬ (mac 500 = busy.station ∨ busy.bays.one.station = some (mac 500) ∨ busy.bays.two.station = some (mac 500))) ∧
      (tabErase fullTable 7).length = 255 := by decide +kernel

/-- O29: both ends of every range of the distance. -/
theorem witness_O29 :
    let d := fun h s : SeqNo => (s.toNat + 65536 - h.toNat) % 65536
    let back := fun h s : SeqNo => (h.toNat + 65536 - s.toNat) % 65536
    d 10000 10001 = 1 ∧ d 10000 42767 = 32767 ∧ d 10000 10000 = 0 ∧ (32768 ≤ d 10000 9999 ∧ 65536 - d 10000 9999 = 1) ∧
      65536 - d 10000 9937 = 63 ∧ (d 10000 42768 = 32768 ∧ 63 < 65536 - d 10000 42768) ∧ 65536 - d 10000 9936 = 64 ∧
      place 10000 9937 = .inside 63 ∧ back 40000 7231 = 32769 ∧ back 40000 7232 = 32768 ∧ back 10000 9936 = 64 := by
  decide +kernel

/-- O30: each acceptance (out-of-order also with a full list, newer by 64 with a pair left behind), a twin and a stale
discard. -/
theorem witness_O30 :
    (judge runSettings ⟨.a, 10, 5⟩ ⟨live.lines, heard 9 [] (ownedRec (mac 9))⟩).verdict = .newer ∧
      (let j := judge runSettings ⟨.a, 73, 5⟩ ⟨live.lines, heard 9 [⟨9, .a, 1, 2⟩] (ownedRec (mac 9))⟩
       j.verdict = .newer ∧ j.closing.orig.win.delivered = 1 ∧ j.closing.orig.cnt.missB = 1) ∧
      (let j := judge runSettings ⟨.a, 11, 5⟩ ⟨live.lines, heard 9 [⟨9, .a, 1, 2⟩] (ownedRec (mac 9))⟩
       j.verdict = .newer ∧ j.closing.orig.win.delivered.getLsbD 1 = false ∧
         j.closing.orig.win.delivered.getLsbD 2 = true) ∧
      (let r := heard 9 ((List.range 8).map fun i => ⟨9 - BitVec.ofNat 16 i, .a, 1, 2⟩) (ownedRec (mac 9))
       (judge runSettings ⟨.b, 8, 5⟩ ⟨live.lines, { r with win := { r.win with delivered := 1 } }⟩).verdict = .outOfOrder) ∧
      (judge runSettings ⟨.b, 8, 5⟩ ⟨live.lines, ownedRec (mac 9)⟩).verdict = .seed ∧
      (let r := heard 9 [] (ownedRec (mac 9))
       (judge runSettings ⟨.b, 60000, 5⟩ ⟨live.lines, { r with win := { r.win with staleRun := 2 } }⟩).verdict = .resync) ∧
      (judge runSettings ⟨.b, 9, 5⟩ ⟨live.lines, heard 9 [⟨9, .a, 1, 2⟩] (ownedRec (mac 9))⟩).verdict = .twin ∧
      (judge runSettings ⟨.b, 60000, 5⟩ ⟨live.lines, heard 9 [] (ownedRec (mac 9))⟩).verdict = .staleDiscard := by
  decide +kernel

/-- O31: a same-lane repeat at offset 0, and a late duplicate at offset 1. -/
theorem witness_O31 :
    (let w := (heard 9 [⟨9, .a, 1, 2⟩] (ownedRec (mac 9))).win
     w.seeded = true ∧ place w.highest 9 = .inside 0 ∧ w.delivered.getLsbD 0 = true ∧
       w.pairs.find? (fun p => decide (p.seq = (9 : SeqNo))) = some ⟨9, .a, 1, 2⟩) ∧
    (let w := (heard 9 [⟨9, .a, 1, 2⟩] (ownedRec (mac 9))).win
     place w.highest 8 = .inside 1 ∧ w.delivered.getLsbD 1 = true ∧
       w.pairs.find? (fun p => decide (p.seq = (8 : SeqNo))) = none) := by decide +kernel

/-- O32: sequence 5 accepted at offset 0, one copy newer by 64, and sequence 5 again, stale; and with two newer by
32,767 each, accepted again as newer. -/
theorem witness_O32 :
    let g := runSettings
    let c : Closing := ⟨live.lines, heard 4 [] (ownedRec (mac 9))⟩
    let j0 := judge g ⟨.a, 5, 1⟩ c
    let j1 := judge g ⟨.a, 32772, 2⟩ j0.closing
    let j2 := judge g ⟨.a, 3, 3⟩ j1.closing
    j0.verdict.accepted = true ∧ WindowRun g j0.closing [(j0.closing, ⟨.a, 32772, 2⟩), (j1.closing, ⟨.a, 3, 3⟩)] j2.closing ∧
      (judge g ⟨.b, 5, 4⟩ j2.closing).verdict = .newer := by
  unfold WindowRun WindowRun WindowRun Window.agrees; decide +kernel

/-- O33. -/
theorem witness_O33 :
    (heard 9 [⟨8, .a, 900, 100900⟩] (ownedRec (mac 9))).win.sound ∧
      (⟨8, .a, 900, 100900⟩ : OpenPair) ∈ (heard 9 [⟨8, .a, 900, 100900⟩] (ownedRec (mac 9))).win.pairs := by
  refine ⟨?_, by decide⟩
  unfold Window.sound; decide +kernel

/-- O34: each boundary of saturation, clamp and step. -/
theorem witness_O34 :
    ((32767 : Int).natAbs ≤ 32767) ∧ ((32767 : Int) < 32768) ∧ ((-32768 : Int) < -32767) ∧
      (plainCfg.hi = true ∧ (0 : Int) + 16 * plainCfg.spike < 8001) ∧
      (plainCfg.lo = true ∧ (-8001 : Int) < 0 - 16 * plainCfg.spike) ∧
      ((8000 : Int) ≤ 0 + 16 * plainCfg.spike ∧ (0 : Int) - 16 * plainCfg.spike ≤ 8000) ∧
      filterStep 2 10 13 = 10 ∧ baselineStep 3 10 9 = 9 ∧ filterStep 0 3 9 = 9 := by decide +kernel

/-- O35: a pipeline of each mode, seeded and not, with the decimation falling due and not. -/
theorem witness_O35 :
    (∀ m : BaselineMode, ({ ownedRec (mac 9) with cfg := { plainCfg with mode := m } } : Origin).cfg.mode = m) ∧
      (ownedRec (mac 9)).pipe.seeded = false ∧ plainCfg.mode = .auto ∧
      (0 + 1 < plainCfg.m ∧ plainCfg.m ≤ 7 + 1) := by
  refine ⟨fun m => by cases m <;> rfl, ?_⟩
  decide +kernel

/-- O36: alternation between Drift and Excess from a held Steady. -/
theorem witness_O36 :
    2 ≤ 2 ∧ Level.drift ≠ Level.excess ∧ (Pipeline.fresh plainCfg).cand ≠ .drift := by decide

/-- A suppressing lead at Excess, seeded and heard. -/
def suppressing : Origin :=
  { heard 9 [] (ownedRec (mac 10)) with cfg := { plainCfg with suppress := true },
                                        pipe := { Pipeline.fresh plainCfg with level := .excess, hold := some 40 } }

/-- Its member at index 1, Lone-A by its runs, with these notified values and this level. -/
def member (n : Notified) (level : Level) (lane : LanePart) : Origin :=
  { heard 9 [] (ownedRec (mac 11)) with cfg := { plainCfg with ref := some 0 }, lane := lane, notif := n,
                                        pipe := { Pipeline.fresh plainCfg with level := level } }

/-- The lane part of a record whose miss run B reached the loss limit. -/
def loneA : LanePart := ⟨⟨0, 3⟩, .loneA, ⟨none, none⟩, none⟩

/-- The lead at index 0 and a record at index 1, with line port B up or Down. -/
def pairOf (lead r : Origin) (bUp : Bool) : State :=
  { live with lines := ⟨live.lines.a, if bUp then live.lines.b else .reset⟩, origins := [(0, lead), (1, r)] }

theorem lead_holds {lead r : Origin} {up : Bool} (h : r.cfg.ref = some 0) (h1 : lead.cfg.suppress = true)
    (h2 : lead.pipe.level = .excess) : LeadHolds (pairOf lead r up) r := ⟨0, lead, h, rfl, h1, .inl h2⟩

/-- O37: the member at Drift held by its lead, Lone-A held by a Down port B, both at once, and the two mixed cases: its
lane state taken beside a held level (into Paired), its level taken beside a held lane state. -/
theorem witness_O37 :
    let steady : Notified := ⟨.steady, .neither, .paired⟩
    (let r := member ⟨.steady, .neither, .loneA⟩ .drift loneA
     LeadHolds (pairOf suppressing r true) r ∧ r.lane.state = r.notif.lane) ∧
    (let r := member steady .steady loneA
     (pairOf suppressing r false).lines.b.state = .down ∧ r.lane.state = .loneA ∧ r.pipe.level = r.notif.level ∧
       r.pipe.dir = r.notif.dir ∧ laneStateOf 3 ⟨r.lane.miss.a, 0⟩ = r.notif.lane) ∧
    (let r := member steady .drift loneA
     LeadHolds (pairOf suppressing r false) r ∧ PortsHold (pairOf suppressing r false) r) ∧
    (let r := member ⟨.steady, .neither, .loneA⟩ .drift (heard 9 [] (ownedRec (mac 11))).lane
     LeadHolds (pairOf suppressing r true) r ∧ r.lane.state = .paired ∧ r.notif.lane ≠ r.lane.state ∧
       (originAt (compareAt false 1 (pairOf suppressing r true)) 1).map Origin.notif = some steady) ∧
    (let r := member steady .drift loneA
     let s := pairOf { suppressing with cfg := plainCfg } r false
     PortsHold s r ∧ r.notif.level ≠ r.pipe.level ∧ leadHolds s.origins r = false ∧
       (originAt (compareAt false 1 s) 1).map Origin.notif = some ⟨.drift, .neither, .paired⟩) ∧
    (let r := member steady .steady loneA
     let s := pairOf { suppressing with cfg := plainCfg } r true
     leadHolds s.origins r = false ∧ s.lines.a.unavailable = false ∧ s.lines.b.unavailable = false ∧
       r.notif ≠ ⟨r.pipe.level, r.pipe.dir, r.lane.state⟩) := by
  refine ⟨⟨lead_holds rfl rfl rfl, rfl⟩, by decide +kernel, ⟨lead_holds rfl rfl rfl, ?_⟩,
    ⟨lead_holds rfl rfl rfl, by decide +kernel⟩, ⟨?_, by decide +kernel⟩, by decide +kernel⟩
  · exact ⟨.inl rfl, 0, 0, fun _ => rfl, fun _ => rfl, fun _ => rfl, fun h => absurd (.inl rfl) h, by decide +kernel,
      .inr (.inl rfl)⟩
  · exact ⟨.inl rfl, 0, 0, fun _ => rfl, fun _ => rfl, fun _ => rfl, fun h => absurd (.inl rfl) h, by decide +kernel,
      .inr (.inl rfl)⟩

/-- O37: the rebase of a suppressing lead at Excess brings its member's held Drift up in the same event. -/
theorem witness_O37_fall :
    let r := member ⟨.steady, .neither, .paired⟩ .drift (heard 9 [] (ownedRec (mac 11))).lane
    let s := pairOf { suppressing with pipe := suppressing.pipe.rebase } r true
    tabWf 256 s.origins = true ∧ Level.excess = .excess ∧
      ((originAt s 0).map fun l => (l.cfg.suppress, l.pipe.level)) = some (true, .steady) ∧
      (originAt (endEvent true .excess 0 s) 1).map Origin.notif = some ⟨.drift, .neither, .paired⟩ ∧
      (endEvent true .excess 0 s).links.one.changes = [0, 1] := by decide +kernel


/-- Line port A of the live part with one field changed. -/
def onA (f : LinePort → LinePort) : State := { live with lines := ⟨f live.lines.a, live.lines.b⟩ }

/-- O38: link present with a link-fail time and without one, a Down port, a running link-fail timer. -/
theorem witness_O38 :
    ((live.lines.get .a).state ≠ .down ∧ (live.lines.get .a).linkFail = none ∧ live.globals.linkFailTime ≠ 0) ∧
      { factoryGlobals with linkFailTime := 0 }.linkFailTime = 0 ∧ (State.reset.lines.get .a).state = .down ∧
      ((onA fun p => { p with linkFail := some 20 }).lines.get .a).linkFail ≠ none := by decide +kernel

/-- O39: a Down port with a settle time and without one, a settling port whose timer runs, a probing one. -/
theorem witness_O39 :
    ((State.reset.lines.get .a).state = .down ∧ State.reset.globals.settleTime ≠ 0 ∧
        tabWf 256 State.reset.origins = true) ∧
      { factoryGlobals with settleTime := 0 }.settleTime = 0 ∧
      (let p := ((onA fun p => { p with state := .settling, settle := some 50 }).lines.get .a)
       p.state = .settling ∧ p.settle ≠ none) ∧
      ((live.lines.get .b).state = .probing ∧ (live.lines.get .b).probe ≠ none) ∧
      (live.lines.get .a).state ≠ .settling ∧ (live.lines.get .a).state ≠ .probing := by decide +kernel

/-- O40: a Down port, and a Probing one whose run of 2 becomes 3. -/
theorem witness_O40 :
    (State.reset.lines.get .a).state = .down ∧
      (let p := ((onA fun p => { p with state := .probing, run := ⟨some .b, 2⟩ }).lines.get .a)
       p.state ≠ .down ∧ p.state ≠ .settling ∧ p.run.len ≤ 3) := by decide +kernel

/-- O41. -/
theorem witness_O41 :
    State.reset.quiet ≠ none ∧ live.quiet = none ∧ live.rollTimer ≠ none ∧ State.reset.rollTimer = none := by decide +kernel

/-- A short frame in a queue. -/
def waiting : Frame := ⟨.bulk, body (mac 1) (mac 9) 60⟩

/-- O42: a frame in protection, one in background alone, nothing waiting, frames of both queues on the wire. -/
theorem witness_O42 :
    ((live.lines.get .a).state ≠ .down ∧ (live.lines.get .a).linkFail = none ∧ (live.lines.get .a).sending = none) ∧
      ((onA fun p => { p with prot := [waiting], back := [waiting] }).lines.get .a).prot = waiting :: [] ∧
      (let p := ((onA fun p => { p with back := [waiting] }).lines.get .a)
       p.prot = [] ∧ p.back = waiting :: []) ∧
      ((live.lines.get .a).prot = [] ∧ (live.lines.get .a).back = []) ∧
      ((onA fun p => { p with sending := some ⟨.protection, [1#8]⟩ }).lines.get .a).sending =
        some ⟨.protection, [1#8]⟩ ∧
      ((onA fun p => { p with sending := some ⟨.background, [1#8]⟩ }).lines.get .a).sending =
        some ⟨.background, [1#8]⟩ := by decide +kernel

/-- O43. -/
theorem witness_O43 : (live.bays.get .m1).up = true ∧ (State.reset.bays.get .m1).up = false := by decide +kernel

/-- O44: as O42, and a running pacing timer. -/
theorem witness_O44 :
    (let p : BayPort := { live.bays.one with prot := [waiting] }
     p.up = true ∧ p.sending = none ∧ p.prot = waiting :: []) ∧
      (let p : BayPort := { live.bays.one with back := [waiting] }
       p.prot = [] ∧ p.back = waiting :: [] ∧ p.pacing = none) ∧
      (let p : BayPort := { live.bays.one with back := [waiting], pacing := some 100 }
       p.prot = [] ∧ p.pacing ≠ none ∧ p.back = waiting :: [] ∧ p.up = true ∧ p.sending = none) ∧
      (let p : BayPort := { live.bays.one with prot := [waiting], pacing := some 100 }
       p.pacing ≠ none ∧ p.prot ≠ []) ∧
      (let p : BayPort := { live.bays.one with sending := some ⟨.protection, [1#8]⟩ }
       p.sending = some ⟨.protection, [1#8]⟩) ∧
      (let p : BayPort := { live.bays.one with sending := some ⟨.background, [1#8]⟩ }
       p.sending = some ⟨.background, [1#8]⟩) := by decide +kernel

/-- R139: the waiting background frame begins at the expiry, with the gap's next timer; behind a queued protection
frame it does not. -/
theorem test_background_begins_at_expiry :
    let s := fun prot => { live with
      bays := ⟨{ live.bays.one with prot := prot, back := [waiting], pacing := some 7 }, live.bays.two⟩,
      bayCfg := ⟨{ factoryBay with gap := 100 }, factoryBay⟩ }
    let p := (pacingEffect .m1 (s [])).bays.one
    let q := (pacingEffect .m1 (s [waiting])).bays.one
    p.back = [] ∧ p.sending.isSome = true ∧ p.pacing = some 100 ∧
      q.back = [waiting] ∧ q.sending = none ∧ q.pacing = none := by decide +kernel

/-- A frame with its FCS right and a length within the limits is good. -/
theorem rx_good {d : List Byte} (h1 : 60 ≤ d.length) (h2 : d.length ≤ 1522) : frameGood (rx d) = true := by
  simp [frameGood, rx, Config.minFrame, Config.maxFrame, h1, h2]

/-- O45: the shortest and the longest frame that passes the lane checks, of a known group and of an individual
address. -/
theorem witness_O45 :
    (live.bays.get .m1).up = true ∧ live.quiet = none ∧ live.alert = .calm ∧
      frameGood (rx (body (grp 1) (mac 1) 60)) = true ∧ classByTable live (grp 1) = .sample ∧
      frameGood (rx (body (mac 2) (mac 1) 1514)) = true ∧ (body (mac 2) (mac 1) 1514).length ≤ 1514 ∧
      classByTable live (mac 2) = .bulk :=
  ⟨by decide +kernel, by decide +kernel, by decide +kernel, by decide +kernel, by decide +kernel,
    rx_good (by decide +kernel) (by decide +kernel), by decide +kernel, by decide +kernel⟩

/-- O46: an oversize frame of 1,515 bytes, one in the start quiet, one shed in Alert. -/
theorem witness_O46 :
    ((live.bays.get .m1).up = true ∧ frameGood (rx (body (mac 2) (mac 1) 1515)) = true ∧
        1514 < (body (mac 2) (mac 1) 1515).length) ∧
      ({ live with quiet := some 15 }.quiet ≠ none ∧ frameGood (rx (body (mac 2) (mac 1) 60)) = true ∧
        (body (mac 2) (mac 1) 60).length ≤ 1514) ∧
      (let s := { live with alert := .alert, alertHold := some 20 }
       s.quiet = none ∧ classByTable s (destOf (body (mac 2) (mac 1) 60)) = .bulk ∧ s.alert = .alert ∧
         (s.bayCfg.get .m1).shedding = true) :=
  ⟨⟨by decide +kernel, rx_good (by decide +kernel) (by decide +kernel), by decide +kernel⟩, by decide +kernel,
    by decide +kernel⟩

/-- O46: a trip frame that the start quiet withholds reports. -/
theorem test_withheld_trip_reports :
    let s := { live with quiet := some 15 }
    classByTable s (grp 2) = .trip ∧ frameGood (rx (body (grp 2) (mac 1) 60)) = true ∧
      (bayFrameEffect .m1 (rx (body (grp 2) (mac 1) 60)) s).alert = .alert ∧
      (bayFrameEffect .m1 (rx (body (grp 2) (mac 1) 60)) s).bays.one.cnt.quiet = 1 := by decide +kernel

/-- O47. -/
theorem witness_O47 :
    (∃ t, exec (.bayFrameReceive .m1 (rx (body (grp 1) (mac 1) 60))) live = .next t) ∧
      (∀ p, Instr.bayFrameReceive .m1 (rx (body (grp 1) (mac 1) 60)) ≠ .powerOn p) ∧
      (∀ p, Instr.bayFrameReceive .m1 (rx (body (grp 1) (mac 1) 60)) ≠ .resetPin p) ∧
      ∀ p, Instr.bayFrameReceive .m1 (rx (body (grp 1) (mac 1) 60)) ≠ .restartTakesEffect p := by
  refine ⟨⟨_, rfl⟩, ?_⟩
  simp

/-- O48: a copy not called for, one to a group with room, one shed, one to a full queue. -/
theorem witness_O48 :
    (live.bays.get .m1).up = true ∧ frameGood (rx (body (mac 9) (mac 1) 60)) = true ∧
      (live.bays.get .m2).station ≠ some (mac 9) ∧
      (frameGood (rx (body (grp 1) (mac 1) 60)) = true ∧ (live.bays.get .m2).up = true ∧ isGroup (grp 1) = true ∧
        ((findGroup live.groups (grp 1)).map fun x => x.2.members.get .m2) = some true ∧
        (live.bays.get .m2).prot.length < 64) ∧
      (frameGood (rx (body (mac 2) (mac 1) 60)) = true ∧ groupBit (mac 2) = false ∧
        (live.bays.get .m2).station = some (mac 2) ∧ { live with alert := .alert }.alert = .alert ∧
        (live.bayCfg.get .m2).shedding = true) ∧
      ¬ (List.replicate 64 waiting).length < 64 := by decide +kernel

/-- A good untagged frame for a destination. -/
def bare (d : Addr) : Prop :=
  frameGood (rx (body d (mac 20) 60)) = true ∧ recognise (body d (mac 20) 60) = .untagged ∧
    destOf (body d (mac 20) 60) = d ∧ d ≠ 0x0B4750000001#48

/-- O49: a frame of each kind of destination. -/
theorem witness_O49 :
    bare 0xFFFFFFFFFFFF#48 ∧ bare (grp 1) ∧ bare (grp 9) ∧ bare (mac 1) ∧ bare (mac 9) ∧
      (live.lines.get .a).state ≠ .down ∧ findGroup live.groups (grp 9) = none ∧ isGroup (grp 9) = true ∧
      (live.bays.get .m1).station = some (mac 1) ∧ (live.bayCfg.get .m1).policy = .deliver := by
  unfold bare; decide +kernel

/-- O49: a frame whose trailer has lane code 00, and an untagged one for the roll-call group. -/
theorem witness_O49_mismatch :
    (let d := body (mac 1) (mac 9) 60 ++ [0x04#8, 0xD2#8, 0x12#8, 0x00#8, 0x3C#8, 0xB5#8, 0x2E#8, 0x71#8]
     frameGood (rx d) = true ∧ recognise (rx d).data = .mismatch ∧ destOf (rx d).data ≠ 0x0B4750000001#48 ∧
       (lineFrameEffect .a (rx d) live).lines.a.cnt.trailerMismatch = 1 ∧
       (lineFrameEffect .a (rx d) live).bays.one.back.length = 1) ∧
    (let d := body Config.rollCallGroup (mac 9) 60
     frameGood (rx d) = true ∧ recognise (rx d).data = .untagged ∧ destOf (rx d).data = 0x0B4750000001#48) := by
  decide +kernel

/-- O50. -/
theorem witness_O50 :
    live.alert = .calm ∧ { live with alert := .alert }.alert = .alert ∧
      { live with alertHold := some 20 }.alertHold ≠ none ∧ live.alertHold = none ∧
      isCut [0x07#8] = true ∧ isCut ([] : List Byte) = false := by decide +kernel

/-- O51 to O54: a ready part with a free link; the index and part bytes of each clause. -/
theorem witness_ready :
    busy.ready = true ∧ (List.replicate 6 0#8).length = 6 ∧
      (6 < (7#8).toNat ∧ (6#8).toNat ≤ 6 ∧ originAt busy (200#8).toNat = none ∧ (originAt busy (1#8).toNat).isSome = true) ∧
      (3 < (4#8).toNat ∧ 2 < (3#8).toNat ∧ (3#8).toNat < 4 ∧ (2#8).toNat ≤ 2) := by decide +kernel

/-- O54: a full area, a refused form, an admitted item, a pending apply, an unready part. -/
theorem witness_O54 :
    (List.replicate 64 0#8).length ≤ 64 ∧ { busy with ready := false }.ready = false ∧
      { busy with applyPending := ⟨true, false⟩ }.applyPending.get .m1 = true ∧ busy.applyPending.get .m1 = false ∧
      32 ≤ (List.replicate 32 (Item.originDelete (mac 1))).length ∧ (busy.staging.get .m1).length < 32 ∧
      (match formCheck [1#8] with
       | .error .badLength => true
       | _ => false) = true ∧
      (match formCheck (1#8 :: addrBytes (mac 1)) with
       | .ok it => decide (it = .originDelete (mac 1))
       | .error _ => false) = true := by decide +kernel

/-- O55: fitting items of each kind, at the limits of their bytes. -/
theorem witness_O55 :
    (Item.originPut (mac 1)
      ⟨.manual, -8388608, 255, 0, 255, 65535, 0, 65535, 255, 65535, true, false, 255, some (mac 2), 255, true, 255,
        true⟩).fits ∧
      (Item.originDelete (mac 1)).fits ∧ (Item.originShare (mac 1)).fits ∧ (Item.groupJoin (grp 1) .bulk).fits ∧
      (Item.groupLeave (grp 1)).fits ∧ (Item.globalPut .profileThresholds 65535 0 65535).fits ∧
      (Item.globalPut .band 0 0 1).fits ∧ (Item.bayPut .gap 65535).fits := by
  refine ⟨⟨by decide +kernel, ?_⟩, (by decide +kernel : groupBit (mac 1) = false),
    (by decide +kernel : groupBit (mac 1) = false),
    (by decide +kernel : isGroup (grp 1) = true), (by decide +kernel : isGroup (grp 1) = true), ?_, ?_, ?_⟩
  · refine ⟨by decide, by decide, by decide, by decide, by decide, by decide, by decide, by decide, by decide,
      by decide +kernel, by decide +kernel, by decide +kernel, by decide +kernel, fun a h => ?_⟩
    cases h; decide +kernel
  · unfold Item.fits; decide +kernel
  · unfold Item.fits; decide +kernel
  · unfold Item.fits; decide +kernel

/-- O55: argument bytes of no kind, of an unknown kind and of a wrong length; and bytes of the right length with a
group-bit address, the broadcast address as a group, a setting past the last and codes past their values. -/
theorem witness_O55_refused :
    ¬ FormLengthRight [] ∧ ¬ FormLengthRight [7#8] ∧ ¬ FormLengthRight (List.replicate 36 0#8) ∧
      (FormLengthRight (1#8 :: addrBytes (grp 1)) ∧ FormIndexBad (1#8 :: addrBytes (grp 1))) ∧
      (FormLengthRight (4#8 :: addrBytes 0xFFFFFFFFFFFF#48) ∧ FormIndexBad (4#8 :: addrBytes 0xFFFFFFFFFFFF#48)) ∧
      (FormLengthRight [5#8, 22#8, 0#8, 0#8, 0#8, 0#8, 0#8, 0#8] ∧
        FormIndexBad [5#8, 22#8, 0#8, 0#8, 0#8, 0#8, 0#8, 0#8]) ∧
      FormIndexBad [5#8, 3#8, 0#8, 0#8, 0#8, 0#8, 0#8, 4#8] ∧
      ¬ FormIndexBad [5#8, 3#8, 0#8, 0#8, 0#8, 0#8, 0#8, 3#8] ∧
      (FormLengthRight [6#8, 1#8, 0#8, 2#8] ∧ FormIndexBad [6#8, 1#8, 0#8, 2#8]) ∧
      ¬ FormIndexBad [6#8, 2#8, 0#8, 2#8] := by
  simp only [FormLengthRight, FormIndexBad]
  refine ⟨?_, ?_, ?_, ?_, ?_, ?_, ?_, ?_, ?_, ?_⟩ <;> decide +kernel

/-- O56: an in-range put and then one that is clamped; the first clamp is item 2's. -/
theorem witness_O56_clamped :
    ∃ u, CommitsInTurn .m1 [.globalPut .lossLimit 0 0 15, .globalPut .lossLimit 0 0 16] live [false, true] u ∧
      FirstClamped [false, true] 2 ∧ FirstClamped [false, false] 0 := by
  refine ⟨_, ⟨_, false, [true], rfl, rfl, _, true, [], rfl, rfl, rfl, rfl⟩, ⟨by decide, fun _ => ⟨rfl, ?_⟩⟩,
    by decide, fun h => absurd rfl h⟩
  intro k hk
  have : k = 0 := by omega
  subst this; rfl

/-- O56: an apply that is refused at its second item, one that is accepted, and none pending. -/
theorem witness_O56 :
    (let s := { live with staging := ⟨[.groupJoin (grp 9) .trip, .groupJoin (grp 1) .trip], []⟩,
                          applyPending := ⟨true, true⟩ }
     s.applyPending.one = true ∧
       (match commitItems .m1 (s.staging.get .m1) 1 0 s with
        | .error (.classConflict, 2) => true
        | _ => false) = true) ∧
    (let s := { live with staging := ⟨[], [.groupLeave (grp 1)]⟩, applyPending := ⟨false, true⟩ }
     s.applyPending.one = false ∧ s.applyPending.two = true ∧
       (match commitItems .m2 (s.staging.get .m2) 1 0 s with
        | .ok (_, 0) => true
        | _ => false) = true) ∧
    (live.applyPending.one = false ∧ live.applyPending.two = false ∧ tabWf 256 live.origins = true) := by decide +kernel

/-- Origin put fields without a reference link whose thresholds rise. -/
def plainPut : PutFields :=
  ⟨.auto, 0, 2, 7, 8, 50, 200, 1000, 2, 500, true, true, 40, none, 64, false, 100, false⟩

/-- O57: an address without a record, one of a learned record, of another master's, of this master's alone and of
both masters'; rising and falling thresholds; a full table. -/
theorem witness_O57 :
    findOrigin busy (mac 77) = none ∧ busy.origins.length < 256 ∧ 256 ≤ crowded.origins.length ∧
      findOrigin crowded (mac 777) = none ∧
      ((findOrigin busy (mac 13)).map fun x => x.2.owners) = some ⟨false, false⟩ ∧
      ((findOrigin busy (mac 10)).map fun x => (x.1, x.2.owners.get .m1, x.2.owners.get .m2)) = some (0, true, false) ∧
      (∃ e ∈ busy.origins, e.2.cfg.ref = some 0) ∧ (∀ e ∈ busy.origins, e.2.cfg.ref ≠ some 1) ∧
      (plainPut.clamped.t1 < plainPut.clamped.t2 ∧ plainPut.clamped.t2 < plainPut.clamped.t3) ∧
      ¬ ({ plainPut with t2 := 50 }.clamped.t1 < { plainPut with t2 := 50 }.clamped.t2) ∧
      (PerMaster.get ⟨true, true⟩ .m1 = true ∧ PerMaster.get ⟨true, true⟩ (otherMaster .m1) = true) ∧
      tabWf 256 busy.origins = true := by
  decide +kernel

/-- O54: STAGE with a length byte of 65 before step 3 of start-up and with an apply pending (R161 step 2 before 3, 4). -/
theorem test_stage_overlong_first :
    ((stageEffect .m1 (.overlong 65#8) { busy with ready := false }).links.one.answer).map Answer.status = some .badLength ∧
      ((stageEffect .m1 (.overlong 65#8) { busy with applyPending := ⟨true, false⟩ }).links.one.answer).map
        Answer.status = some .badLength := by decide +kernel

/-- O57: a put that creates a record in an empty table raises ORIGIN CHANGE (bit 0) and adds index 0 on both links. -/
theorem test_put_creates_and_notifies :
    (putOrigin .m1 (mac 77) plainPut live).toOption.map (fun t =>
        (t.links.one.changes, t.links.two.changes, t.links.one.flags.getLsbD 0, t.links.two.flags.getLsbD 0)) =
      some ([0], [0], true, true) ∧ live.links.one.flags.getLsbD 0 = false := by decide +kernel

/-- O57: no link; a link of a new record and of record 3 to the lead at index 0, which holds no link; and links that
no record admits: to itself, to an address without a record. -/
theorem witness_O57_references :
    RefResolves busy (mac 77) none none ∧ RefResolves busy (mac 77) (some (mac 10)) (some 0) ∧
      RefResolves busy (mac 13) (some (mac 10)) (some 0) ∧ (¬ ∃ x, RefResolves busy (mac 10) (some (mac 10)) x) ∧
      ¬ ∃ x, RefResolves busy (mac 13) (some (mac 99)) x := by
  have h10 : findOrigin busy (mac 10) = some (0, heard 9 [] (ownedRec (mac 10))) := by decide +kernel
  have h13 : ∀ me r, findOrigin busy (mac 13) = some (me, r) → me = 3 := by
    intro me r h
    have h3 : (findOrigin busy (mac 13)).map Prod.fst = some 3 := by decide +kernel
    simpa [h] using h3
  have h3 : ∀ e ∈ busy.origins, e.2.cfg.ref ≠ some 3 := by decide +kernel
  have h99 : findOrigin busy (mac 99) = none := by decide +kernel
  refine ⟨rfl, ⟨by decide, ⟨0, _, rfl, h10, by decide +kernel, by decide +kernel⟩, fun me r h => ?_⟩,
    ⟨by decide, ⟨0, _, rfl, h10, by decide +kernel, by decide +kernel⟩, fun me r h => h13 me r h ▸ h3⟩, ?_, ?_⟩
  · have h77 : findOrigin busy (mac 77) = none := by decide +kernel
    simp [h77] at h
  · rintro ⟨x, h, -⟩; exact h rfl
  · rintro ⟨x, -, ⟨i, lead, -, h, -⟩, -⟩; simp [h99] at h

/-- O57: groups with and without an entry, at 64 entries and below, and the members each clause names. -/
theorem witness_O57_groups :
    findGroup live.groups (grp 9) = none ∧ live.groups.length < 64 ∧ tabWf 64 live.groups = true ∧
      64 ≤ ((List.range 64).map fun i => (i, (⟨grp (i + 100), .trip, ⟨true, false⟩⟩ : Group))).length ∧
      ((findGroup live.groups (grp 1)).map fun x => (x.2.cls, x.2.members.get (otherMaster .m1))) =
        some (.sample, true) ∧ GroupClass.sample ≠ .trip ∧
      PerMaster.get ⟨true, false⟩ (otherMaster .m1) = false := by decide +kernel

/-- O58: values below, at and above the limits, each code, thresholds that rise and that do not, and the link-fail
times at which the nearest changes. -/
theorem witness_O58 :
    (Limited 1 15 20 15 ∧ Limited 1 15 0 1 ∧ Limited 1 15 15 15) ∧
      ((1 = if true then 1 else 0) ∧ (0 = if false then 1 else 0)) ∧ (1 < 10 ∧ 10 < 32767) ∧ 10 ≤ 10 ∧
      (0 < 3 ∧ 3 ≤ 255) ∧
    (BaselineMode.manual = .manual ∧ (-524273 : Int) < -524272 ∧ (524272 : Int) < 524273) ∧ 3 < 4 ∧ 4 < 5 ∧
      (globalClamp .linkFailTime 2 = 0 ∧ globalClamp .linkFailTime 3 = 5 ∧ globalClamp .linkFailTime 12 = 5 ∧
        globalClamp .linkFailTime 13 = 20 ∧ globalClamp .linkFailTime 59 = 20 ∧ globalClamp .linkFailTime 60 = 100) := by
  unfold Limited; decide +kernel

/-- O59: each argument of SAVE SET and SELECT START SET, a save in flight and none, valid sets and invalid ones. -/
theorem witness_O59 :
    let v := { busy with set1 := ⟨factorySet, true, true⟩, set2 := ⟨factorySet, true, true⟩ }
    let w := { busy with save := some ⟨.u2, .m1, factorySet⟩ }
    busy.ready = true ∧ 2 < (3#8).toNat ∧ (2#8).toNat ≤ 2 ∧ w.save ≠ none ∧ (0#8).toNat = 0 ∧ (1#8).toNat = 1 ∧
      (2#8).toNat = 2 ∧ busy.save = none ∧ v.set1.valid = true ∧ v.set2.valid = true ∧ busy.set1.valid = false ∧
      busy.set2.valid = false ∧ w.save = some ⟨.u2, .m1, factorySet⟩ ∧ (2 < (254#8).toNat ∧ 254#8 ≠ 255#8) := by
  decide +kernel

/-- O60: a start with quiet 0 and a PHY reporting link announces in the start-up (R126). -/
theorem test_start_quiet_of_zero :
    let c := { factorySet with globals := { factoryGlobals with startQuiet := 0 } }
    let t := powerReset ⟨false, true, true, false⟩ { busy with startSet := .s1, set1 := ⟨c, true, false⟩ }
    t.quiet = none ∧ t.rollTimer = some 10 ∧ t.rollSeq = 1 ∧ t.lines.a.prot = [] ∧ t.lines.b.prot.length = 1 ∧
      t.lines.b.state = .settling ∧ t.bays.one.up = true := by decide +kernel

/-- O60: a factory start with quiet 15 or 1, an armed restart, one with a save in flight. -/
theorem witness_O60 :
    1 ≤ (startContent busy).globals.startQuiet ∧
      (let s := { busy with restartArmed := true }
       s.restartArmed = true ∧ s.save = none) ∧
      (let c := { factorySet with globals := { factoryGlobals with startQuiet := 1 } }
       1 ≤ (startContent { busy with startSet := .s1, set1 := ⟨c, true, true⟩ }).globals.startQuiet) ∧
      busy.restartArmed = false ∧ { busy with save := some ⟨.u1, .m1, factorySet⟩ }.save ≠ none ∧
      (∃ t, exec (.powerOn ⟨true, true, true, true⟩) busy = .next t) := by
  refine ⟨?_, ?_, ?_, ?_, ?_, ⟨_, rfl⟩⟩ <;> decide +kernel

end Sys2Proof.Tests
end

section
/-! SUPPORT. Numbers and addresses in runs of bytes (R15): what reading gives after writing, and reading a run that
stands in front of or behind another. -/

namespace Sys2Proof.Machine

/-! ## Numbers, most significant byte first -/

/-- Reading on from the number `n` of the bytes before. -/
theorem foldl_byte (bs : List Byte) (n : Nat) :
    bs.foldl (fun n b => n * 256 + b.toNat) n = n * 256 ^ bs.length + beNat bs := by
  induction bs generalizing n with
  | nil => simp [beNat]
  | cons b bs ih =>
    have hb : beNat (b :: bs) = (0 * 256 + b.toNat) * 256 ^ bs.length + beNat bs := ih _
    rw [List.foldl_cons, ih, hb, List.length_cons]
    ring

theorem beNat_cons (b : Byte) (bs : List Byte) : beNat (b :: bs) = b.toNat * 256 ^ bs.length + beNat bs := by
  rw [beNat, List.foldl_cons, foldl_byte, Nat.zero_mul, Nat.zero_add]

theorem beNat_lt (bs : List Byte) : beNat bs < 256 ^ bs.length := by
  induction bs with
  | nil => simp [beNat]
  | cons b bs ih =>
    have hb : b.toNat < 256 := b.isLt
    calc beNat (b :: bs) < (b.toNat + 1) * 256 ^ bs.length := by rw [beNat_cons]; linarith
      _ ≤ 256 * 256 ^ bs.length := Nat.mul_le_mul_right _ hb
      _ = 256 ^ (b :: bs).length := by rw [List.length_cons, pow_succ']

@[simp] theorem beNat_singleton (b : Byte) : beNat [b] = b.toNat := by simp [beNat]

@[simp] theorem length_beBytes (k v : Nat) : (beBytes k v).length = k := by
  induction k with
  | zero => rfl
  | succ k ih => simp [beBytes, ih]

/-- A number written in `k` bytes is read back modulo 256 to the `k`. -/
theorem beNat_beBytes (k v : Nat) : beNat (beBytes k v) = v % 256 ^ k := by
  induction k with
  | zero => simp [beBytes, beNat, Nat.mod_one]
  | succ k ih =>
    have hpow : 2 ^ (8 * k) = 256 ^ k := pow_mul 2 8 k
    rw [beBytes, beNat_cons, ih, length_beBytes, BitVec.toNat_ofNat, Nat.shiftRight_eq_div_pow, hpow, pow_succ 256,
      Nat.mod_mul, Nat.add_comm, Nat.mul_comm]

/-! ## Runs of bytes -/

theorem length_slice_le (bs : List Byte) (off k : Nat) : (slice bs off k).length ≤ k := by simp [slice]

theorem slice_append_left {a : List Byte} {off k : Nat} (h : off + k ≤ a.length) (b : List Byte) :
    slice (a ++ b) off k = slice a off k := by
  rw [slice, slice, List.drop_append_of_le_length (by omega), List.take_append_of_le_length (by simp; omega)]

theorem slice_append_right {a : List Byte} {off : Nat} (h : a.length ≤ off) (b : List Byte) (k : Nat) :
    slice (a ++ b) off k = slice b (off - a.length) k := by
  rw [slice, slice, List.drop_append, List.drop_eq_nil_of_le h, List.nil_append]

theorem slice_all {a : List Byte} {k : Nat} (h : a.length = k) : slice a 0 k = a := by
  simp [slice, ← h]

theorem slice_drop (bs : List Byte) (i off k : Nat) : slice (bs.drop i) off k = slice bs (i + off) k := by
  simp [slice]

theorem numAt_lt (bs : List Byte) (off k : Nat) : numAt bs off k < 256 ^ k :=
  (beNat_lt _).trans_le (Nat.pow_le_pow_right (by decide) (length_slice_le bs off k))

/-! ## Addresses -/

theorem toNat_addrAt (bs : List Byte) (off : Nat) : (addrAt bs off).toNat = numAt bs off 6 := by
  rw [addrAt, BitVec.toNat_ofNat, Nat.mod_eq_of_lt (show _ < 2 ^ 48 from numAt_lt bs off 6)]

theorem addrAt_append_left {a : List Byte} {off : Nat} (h : off + 6 ≤ a.length) (b : List Byte) :
    addrAt (a ++ b) off = addrAt a off := by
  rw [addrAt, addrAt, numAt, numAt, slice_append_left h]

theorem addrAt_append_right {a : List Byte} {off : Nat} (h : a.length ≤ off) (b : List Byte) :
    addrAt (a ++ b) off = addrAt b (off - a.length) := by
  rw [addrAt, addrAt, numAt, numAt, slice_append_right h]

theorem addrAt_drop (bs : List Byte) (i off : Nat) : addrAt (bs.drop i) off = addrAt bs (i + off) := by
  rw [addrAt, addrAt, numAt, numAt, slice_drop]

@[simp] theorem length_addrBytes (a : Addr) : (addrBytes a).length = 6 := length_beBytes 6 _

@[simp] theorem addrAt_addrBytes_append (a : Addr) (bs : List Byte) : addrAt (addrBytes a ++ bs) 0 = a := by
  have hs : slice (addrBytes a) 0 6 = addrBytes a := slice_all (length_addrBytes a)
  rw [addrAt_append_left (by simp), addrAt, numAt, hs, addrBytes, beNat_beBytes,
    Nat.mod_eq_of_lt (show a.toNat < 256 ^ 6 from a.isLt), BitVec.ofNat_toNat, BitVec.setWidth_eq]

end Sys2Proof.Machine
end

section
/-! SUPPORT. The lane trailer: its codes, its fields as it is written, and one rule for each answer of recognition. -/

namespace Sys2Proof.Machine

/-! ## Codes of the descriptor -/

theorem laneOfCode_laneCode (l : Lane) : laneOfCode (laneCode l) = some l := by cases l <;> rfl

theorem laneOfCode_eq_none {n : Nat} (h : ¬ (n = 1 ∨ n = 2)) : laneOfCode n = none := by
  unfold laneOfCode
  split
  · exact absurd (.inl rfl) h
  · exact absurd (.inr rfl) h
  · rfl

theorem exists_laneCode {n : Nat} (h : n = 1 ∨ n = 2) : ∃ l, n = laneCode l := by
  obtain rfl | rfl := h
  · exact ⟨.a, rfl⟩
  · exact ⟨.b, rfl⟩

theorem classOfCode_code (c : TrafficClass) : classOfCode c.code = c := by cases c <;> rfl

theorem code_classOfCode {n : Nat} (h : n < 4) : (classOfCode n).code = n := by
  interval_cases n <;> rfl

/-! ## The fields of a written trailer (R3) -/

section
variable (seq : SeqNo) (l : Lane) (cls : TrafficClass) (span : Nat)

@[simp] theorem length_trailerBytes : (trailerBytes seq l cls span).length = 8 := by
  simp [trailerBytes, Config.marker]

theorem marker_trailerBytes : slice (trailerBytes seq l cls span) 5 3 = Config.marker := rfl

theorem seq_trailerBytes : numAt (trailerBytes seq l cls span) 0 2 = seq.toNat := by
  change beNat (beBytes 2 seq.toNat) = seq.toNat
  rw [beNat_beBytes, Nat.mod_eq_of_lt (show seq.toNat < 256 ^ 2 from seq.isLt)]

theorem descriptor_trailerBytes :
    numAt (trailerBytes seq l cls span) 2 1 = laneCode l * 64 + cls.code * 16 + Config.trailerVersion := by
  change beNat [BitVec.ofNat 8 (laneCode l * 64 + cls.code * 16 + Config.trailerVersion)] = _
  rw [beNat_singleton]
  cases l <;> cases cls <;> rfl

theorem span_trailerBytes (h : span < 65536) : numAt (trailerBytes seq l cls span) 3 2 = span := by
  change beNat (beBytes 2 span) = span
  rw [beNat_beBytes, Nat.mod_eq_of_lt (show span < 256 ^ 2 from h)]

end

/-! ## Recognition (R4, R5) -/

/-- The conditions of R4 besides the marker, on a frame of `n` bytes with the last eight `tr`. -/
def TrailerConditions (n : Nat) (tr : List Byte) : Prop :=
  68 ≤ n ∧ numAt tr 2 1 % 16 = 2 ∧ (numAt tr 2 1 / 64 = 1 ∨ numAt tr 2 1 / 64 = 2) ∧ numAt tr 3 2 = n - 8

/-- What R6 reads from a frame with the last eight bytes `tr` and the lane `code`. -/
def taggedFields (data tr : List Byte) (code : Lane) : Tagged :=
  { source := sourceOf data, dest := destOf data, seq := BitVec.ofNat 16 (numAt tr 0 2), code := code,
    cls := classOfCode (numAt tr 2 1 / 16 % 4), body := data.take (data.length - 8) }

theorem exists_bytes_of_length_eight {tr : List Byte} (h : tr.length = 8) :
    ∃ q1 q0 d p1 p0 x y z, tr = [q1, q0, d, p1, p0, x, y, z] := by
  match tr, h with
  | [q1, q0, d, p1, p0, x, y, z], _ => exact ⟨q1, q0, d, p1, p0, x, y, z, rfl⟩

section
variable {data tr : List Byte} (ht : data.drop (data.length - 8) = tr) (h8 : tr.length = 8)
include ht h8

theorem recognise_without_marker (hm : slice tr 5 3 ≠ Config.marker) : recognise data = .untagged := by
  obtain ⟨q1, q0, d, p1, p0, x, y, z, rfl⟩ := exists_bytes_of_length_eight h8
  have hm : [x, y, z] ≠ Config.marker := hm
  simp only [recognise, ht, if_pos hm]

theorem recognise_mismatch (hm : slice tr 5 3 = Config.marker) (hc : ¬ TrailerConditions data.length tr) :
    recognise data = .mismatch := by
  obtain ⟨q1, q0, d, p1, p0, x, y, z, rfl⟩ := exists_bytes_of_length_eight h8
  have hm : ¬ [x, y, z] ≠ Config.marker := not_not.mpr hm
  have hd : numAt [q1, q0, d, p1, p0, x, y, z] 2 1 = d.toNat := beNat_singleton d
  simp only [recognise, ht, if_neg hm]
  by_cases hl : d.toNat / 64 = 1 ∨ d.toNat / 64 = 2
  · have hc : ¬ (68 ≤ data.length ∧ d.toNat % 16 = Config.trailerVersion ∧ beNat [p1, p0] = data.length - 8) :=
      fun ⟨hn, hv, hs⟩ => hc ⟨hn, hd ▸ hv, hd ▸ hl, hs⟩
    obtain ⟨l, hl⟩ := exists_laneCode hl
    simp only [hl, laneOfCode_laneCode, if_neg hc]
  · simp only [laneOfCode_eq_none hl]

theorem recognise_tagged {l : Lane} (hm : slice tr 5 3 = Config.marker) (hc : TrailerConditions data.length tr)
    (hl : numAt tr 2 1 / 64 = laneCode l) : recognise data = .tagged (taggedFields data tr l) := by
  obtain ⟨q1, q0, d, p1, p0, x, y, z, rfl⟩ := exists_bytes_of_length_eight h8
  obtain ⟨hn, hv, -, hs⟩ := hc
  have hm : ¬ [x, y, z] ≠ Config.marker := not_not.mpr hm
  have hd : numAt [q1, q0, d, p1, p0, x, y, z] 2 1 = d.toNat := beNat_singleton d
  rw [hd] at hl hv
  have hc : 68 ≤ data.length ∧ d.toNat % 16 = Config.trailerVersion ∧ beNat [p1, p0] = data.length - 8 := ⟨hn, hv, hs⟩
  simp only [recognise, ht, if_neg hm, hl, laneOfCode_laneCode, if_pos hc, taggedFields, hd]
  rfl

end

/-! ## The two statements about trailers -/

/-- Settles O16: the written trailer meets the conditions of R4, and each field is read back as it was written. -/
theorem recognitionReadsWrittenTrailers : Obligations.RecognitionReadsWrittenTrailers := by
  intro l seq cls body hmin hmax
  let tr := trailerBytes seq l cls body.length
  have h8 : tr.length = 8 := length_trailerBytes ..
  have hn : (body ++ tr).length - 8 = body.length := by simp [h8]
  have ht : (body ++ tr).drop ((body ++ tr).length - 8) = tr := by rw [hn, List.drop_left]
  have hd : numAt tr 2 1 = laneCode l * 64 + cls.code * 16 + 2 := descriptor_trailerBytes ..
  have hs : numAt tr 3 2 = body.length := span_trailerBytes _ _ _ _ (by omega)
  have hcls : cls.code < 4 := by cases cls <;> decide
  have hlane : numAt tr 2 1 / 64 = laneCode l := by omega
  have hclass : numAt tr 2 1 / 16 % 4 = cls.code := by omega
  have hcode : laneCode l = 1 ∨ laneCode l = 2 := by cases l <;> decide
  have hc : TrailerConditions (body ++ tr).length tr :=
    ⟨by simp [h8]; omega, by omega, hlane ▸ hcode, by rw [hn, hs]⟩
  calc recognise (body ++ tr) = .tagged (taggedFields (body ++ tr) tr l) :=
        recognise_tagged ht h8 (marker_trailerBytes ..) hc hlane
    _ = _ := by
        rw [taggedFields, hn, List.take_left, hclass, classOfCode_code, seq_trailerBytes, BitVec.ofNat_toNat,
          BitVec.setWidth_eq, sourceOf, destOf, addrAt_append_left (by omega), addrAt_append_left (by omega)]
        rfl

/-- Settles O17, by the rule of recognition for each of the three answers. -/
theorem recognitionFollowsItsFourConditions : Obligations.RecognitionFollowsItsFourConditions := by
  refine ⟨⟨rfl, rfl⟩, fun data hdata => ?_⟩
  have h8 : (data.drop (data.length - 8)).length = 8 := by simp; omega
  refine ⟨recognise_without_marker rfl h8, recognise_mismatch rfl h8, fun hm hc => ?_⟩
  have ⟨_, _, hlane, _⟩ := hc
  obtain ⟨l, hl⟩ := exists_laneCode hlane
  refine ⟨_, recognise_tagged rfl h8 hm hc hl, ?_, hl.symm, ?_, rfl, toNat_addrAt .., toNat_addrAt ..⟩
  · exact (BitVec.toNat_ofNat ..).trans (Nat.mod_eq_of_lt (numAt_lt _ 0 2))
  · exact code_classOfCode (Nat.mod_lt _ (by decide))

end Sys2Proof.Machine
end

section
/-! SUPPORT. The roll-call frame: its address list, the bytes of the part's own roll-call, the checks of R11. -/

namespace Sys2Proof.Machine

/-! ## Address lists -/

@[simp] theorem length_addrList (n : Nat) (bs : List Byte) : (addrList n bs).length = n := by
  induction n generalizing bs with
  | zero => rfl
  | succ n ih => simp [addrList, ih]

theorem getElem?_addrList {n k : Nat} (h : k < n) (bs : List Byte) :
    (addrList n bs)[k]? = some (addrAt bs (6 * k)) := by
  induction n generalizing k bs with
  | zero => omega
  | succ n ih =>
    cases k with
    | zero => rfl
    | succ k =>
      rw [addrList, List.getElem?_cons_succ, ih (by omega), addrAt_drop]
      congr 2
      omega

/-- Addresses written one behind the other are read back. -/
theorem addrList_flatMap_addrBytes (as : List Addr) (bs : List Byte) :
    addrList as.length (as.flatMap addrBytes ++ bs) = as := by
  induction as with
  | nil => rfl
  | cons a as ih =>
    rw [List.flatMap_cons, List.append_assoc, List.length_cons, addrList, addrAt_addrBytes_append,
      List.drop_left' (length_addrBytes a), ih]

theorem length_flatMap_addrBytes (as : List Addr) : (as.flatMap addrBytes).length = 6 * as.length := by
  simp [List.length_flatMap, mul_comm]

/-! ## The part's own roll-call (R10) -/

/-- The 18 bytes before the proxies: the group, the own address, the type, version 1, role 1, interval, proxy count. -/
def rollCallHeader (own : Addr) (interval count : Nat) : List Byte :=
  addrBytes Config.rollCallGroup ++ (addrBytes own ++ (Config.rollCallType ++
    [1#8, 1#8, BitVec.ofNat 8 interval, BitVec.ofNat 8 count]))

/-- The header with the proxies behind it, before the padding. -/
def rollCallContent (own : Addr) (interval : Nat) (proxies : List Addr) : List Byte :=
  rollCallHeader own interval proxies.length ++ proxies.flatMap addrBytes

@[simp] theorem length_rollCallHeader (own : Addr) (i c : Nat) : (rollCallHeader own i c).length = 18 := by
  simp [rollCallHeader, Config.rollCallType]

theorem length_rollCallContent (own : Addr) (i : Nat) (ps : List Addr) :
    (rollCallContent own i ps).length = 18 + 6 * ps.length := by
  rw [rollCallContent, List.length_append, length_rollCallHeader, length_flatMap_addrBytes]

theorem rollCallBody_eq_content (own : Addr) (i : Nat) (ps : List Addr) :
    rollCallBody own i ps = rollCallContent own i ps ++ List.replicate (60 - (18 + 6 * ps.length)) 0#8 := by
  rw [← length_rollCallContent own i ps]
  simp only [rollCallBody, rollCallContent, rollCallHeader, List.append_assoc]

theorem rollCallBody_eq_header (own : Addr) (i : Nat) (ps : List Addr) :
    rollCallBody own i ps = rollCallHeader own i ps.length ++
      (ps.flatMap addrBytes ++ List.replicate (60 - (18 + 6 * ps.length)) 0#8) := by
  rw [rollCallBody_eq_content, rollCallContent, List.append_assoc]

section
variable (own : Addr) (i : Nat) (ps : List Addr)

theorem length_rollCallBody (h : ps.length ≤ 2) : (rollCallBody own i ps).length = 60 := by
  rw [rollCallBody_eq_content, List.length_append, length_rollCallContent, List.length_replicate]
  omega

theorem destOf_rollCallBody : destOf (rollCallBody own i ps) = Config.rollCallGroup := by
  rw [destOf, rollCallBody_eq_header, rollCallHeader, List.append_assoc, addrAt_addrBytes_append]

theorem sourceOf_rollCallBody : sourceOf (rollCallBody own i ps) = own := by
  rw [sourceOf, rollCallBody_eq_header, rollCallHeader, List.append_assoc, addrAt_append_right (by simp),
    length_addrBytes, Nat.sub_self, List.append_assoc, addrAt_addrBytes_append]

/-- A run inside the six bytes from 12 on is read from the type, version, role, interval and proxy count. -/
theorem slice_rollCallBody {off k : Nat} (h12 : 12 ≤ off) (h18 : off + k ≤ 18) :
    slice (rollCallBody own i ps) off k =
      slice (Config.rollCallType ++ [1#8, 1#8, BitVec.ofNat 8 i, BitVec.ofNat 8 ps.length]) (off - 12) k := by
  rw [rollCallBody_eq_header, slice_append_left (by simpa using h18), rollCallHeader, ← List.append_assoc,
    slice_append_right (by simpa using h12), List.length_append, length_addrBytes, length_addrBytes]

theorem type_rollCallBody : slice (rollCallBody own i ps) 12 2 = Config.rollCallType :=
  slice_rollCallBody own i ps (by decide) (by decide)

theorem version_rollCallBody : numAt (rollCallBody own i ps) 14 1 = 1 :=
  congrArg beNat (slice_rollCallBody own i ps (by decide) (by decide))

theorem role_rollCallBody : numAt (rollCallBody own i ps) 15 1 = 1 :=
  congrArg beNat (slice_rollCallBody own i ps (by decide) (by decide))

theorem interval_rollCallBody (h : i < 256) : numAt (rollCallBody own i ps) 16 1 = i := by
  calc numAt (rollCallBody own i ps) 16 1 = beNat [BitVec.ofNat 8 i] :=
        congrArg beNat (slice_rollCallBody own i ps (by decide) (by decide))
    _ = i := by rw [beNat_singleton, BitVec.toNat_ofNat, Nat.mod_eq_of_lt h]

theorem count_rollCallBody (h : ps.length < 256) : numAt (rollCallBody own i ps) 17 1 = ps.length := by
  calc numAt (rollCallBody own i ps) 17 1 = beNat [BitVec.ofNat 8 ps.length] :=
        congrArg beNat (slice_rollCallBody own i ps (by decide) (by decide))
    _ = ps.length := by rw [beNat_singleton, BitVec.toNat_ofNat, Nat.mod_eq_of_lt h]

theorem proxiesOf_rollCallBody (h : ps.length < 256) : proxiesOf (rollCallBody own i ps) = ps := by
  rw [proxiesOf, count_rollCallBody own i ps h, rollCallBody_eq_header, List.drop_left' (length_rollCallHeader ..),
    addrList_flatMap_addrBytes]

theorem padding_rollCallBody {k : Nat} (hk : 18 + 6 * ps.length ≤ k) (h60 : k < 60) :
    (rollCallBody own i ps)[k]? = some 0#8 := by
  rw [rollCallBody_eq_content, List.getElem?_append_right (by rwa [length_rollCallContent]), length_rollCallContent,
    List.getElem?_replicate_of_lt (by omega)]

end

/-! ## The checks (R11) -/

theorem rollCallWellFormed_iff (body : List Byte) : rollCallWellFormed body = true ↔ RollCallPasses body := by
  simp only [rollCallWellFormed, RollCallPasses, Bool.and_eq_true, decide_eq_true_eq, and_assoc]
  rfl

theorem rollCallPasses_rollCallBody (own : Addr) (i : Nat) {ps : List Addr} (h : ps.length ≤ 2) :
    RollCallPasses (rollCallBody own i ps) := by
  refine ⟨destOf_rollCallBody .., type_rollCallBody .., version_rollCallBody .., ?_⟩
  rw [count_rollCallBody own i ps (by omega), length_rollCallBody own i ps h]
  omega

/-- Settles O18, from the reading rules of the own roll-call and of an address list. -/
theorem ownRollCallIsWellFormed : Obligations.OwnRollCallIsWellFormed := by
  refine ⟨fun own i ps hi hps => ?_, fun body => ⟨rollCallWellFormed_iff body, fun hpass => ?_⟩⟩
  · exact ⟨length_rollCallBody own i ps hps, (rollCallWellFormed_iff _).2 (rollCallPasses_rollCallBody own i hps),
      proxiesOf_rollCallBody own i ps (by omega), destOf_rollCallBody .., sourceOf_rollCallBody ..,
      role_rollCallBody .., interval_rollCallBody own i ps hi, fun k => padding_rollCallBody own i ps⟩
  · obtain ⟨-, -, -, hcount, -⟩ := hpass
    refine ⟨length_addrList .., hcount, fun k hk => ?_⟩
    rw [proxiesOf, getElem?_addrList hk, addrAt_drop]

end Sys2Proof.Machine
end

section
/-! SUPPORT. Frames at a port that are counted and go no further: failed checks (R1, R2) and echoes (R38). -/

namespace Sys2Proof.Machine

/-! ## The checks and the own addresses -/

theorem frameGood_iff (f : RxFrame) :
    frameGood f = true ↔ f.fcs = fcs f.data ∧ 60 ≤ f.data.length ∧ f.data.length ≤ 1522 := by
  simp only [frameGood, Bool.and_eq_true, decide_eq_true_eq, and_assoc]
  rfl

theorem frameGood_eq_false_iff (f : RxFrame) :
    frameGood f = false ↔ ¬ (f.fcs = fcs f.data ∧ 60 ≤ f.data.length ∧ f.data.length ≤ 1522) := by
  rw [← frameGood_iff, Bool.not_eq_true]

theorem ownAddress_iff (s : State) (a : Addr) :
    ownAddress s a = true ↔ a = s.station ∨ s.bays.one.station = some a ∨ s.bays.two.station = some a := by
  simp only [ownAddress, Bool.or_eq_true, decide_eq_true_eq, or_assoc]

/-! ## The two receiving commands -/

theorem exec_lineFrameReceive (l : Lane) (f : RxFrame) (s : State) :
    exec (.lineFrameReceive l f) s = .next (lineFrameEffect l f s) := rfl

theorem exec_bayFrameReceive (m : Master) (f : RxFrame) (s : State) :
    exec (.bayFrameReceive m f) s = .next (bayFrameEffect m f s) := rfl

section
variable {l : Lane} {f : RxFrame} {s : State}

theorem lineFrameEffect_of_down (hp : (s.lines.get l).state = .down) : lineFrameEffect l f s = s := if_pos hp

theorem lineFrameEffect_of_bad (hp : (s.lines.get l).state ≠ .down) (hf : frameGood f = false) :
    lineFrameEffect l f s = s.countLine l fun c => { c with rxError := c.rxError + 1 } := by
  rw [lineFrameEffect, if_neg hp, if_pos hf]

theorem lineFrameEffect_of_tagged {t : Tagged} (hp : (s.lines.get l).state ≠ .down) (hf : frameGood f = true)
    (ht : recognise f.data = .tagged t) : lineFrameEffect l f s = pairFilter l t s := by
  rw [lineFrameEffect, if_neg hp, if_neg (by simp [hf]), ht]

theorem pairFilter_of_echo {t : Tagged} (h : ownAddress s t.source = true) :
    pairFilter l t s = s.countLine l fun c => { c with echo := c.echo + 1 } := if_pos h

theorem bayFrameEffect_of_down {m : Master} (hp : (s.bays.get m).up = false) : bayFrameEffect m f s = s := if_pos hp

theorem bayFrameEffect_of_bad {m : Master} (hp : (s.bays.get m).up = true) (hf : frameGood f = false) :
    bayFrameEffect m f s = s.countBay m fun c => { c with rxError := c.rxError + 1 } := by
  rw [bayFrameEffect, if_neg (by simp [hp]), if_pos hf]

end

/-- Settles O19, by the rule of the receiving effect for each kind of frame and port. -/
theorem damagedFramesAndEchoesAreOnlyCounted : Obligations.DamagedFramesAndEchoesAreOnlyCounted := by
  intro f s bad
  have hbad : bad → frameGood f = false := (frameGood_eq_false_iff f).2
  have hgood : ¬ bad → frameGood f = true := fun h => (frameGood_iff f).2 (not_not.1 h)
  refine ⟨fun l => ⟨fun hp => ?_, fun hp hb => ?_, fun t hp hb ht hown => ?_⟩, fun m => ⟨fun hp => ?_, fun hp hb => ?_⟩⟩
  · rw [exec_lineFrameReceive, lineFrameEffect_of_down hp]
  · rw [exec_lineFrameReceive, lineFrameEffect_of_bad hp (hbad hb)]
    rfl
  · rw [exec_lineFrameReceive, lineFrameEffect_of_tagged hp (hgood hb) ht,
      pairFilter_of_echo ((ownAddress_iff s t.source).2 hown)]
    rfl
  · rw [exec_bayFrameReceive, bayFrameEffect_of_down hp]
  · rw [exec_bayFrameReceive, bayFrameEffect_of_bad hp (hbad hb)]
    rfl

end Sys2Proof.Machine
end

section
/-! SUPPORT. Event flags (R167): a kind's flag is one bit, and raising a kind sets that bit alone. -/

namespace Sys2Proof.Machine

theorem EventKind.number_lt (k : EventKind) : k.number < 16 := by cases k <;> decide

theorem EventKind.number_inj {j k : EventKind} (h : j.number = k.number) : j = k := by
  cases j <;> cases k <;> cases h <;> rfl

theorem EventKind.bit_eq (k : EventKind) : k.bit = BitVec.twoPow 16 k.number := rfl

theorem hasKind_eq_getLsbD (e : EventSet) (k : EventKind) : hasKind e k = e.getLsbD k.number := by
  have hne : BitVec.twoPow 16 k.number ≠ 0#16 := fun h => by
    simpa [BitVec.getLsbD_twoPow, k.number_lt] using congrArg (BitVec.getLsbD · k.number) h
  rw [hasKind, EventKind.bit_eq, BitVec.and_twoPow]
  cases e.getLsbD k.number
  · rfl
  · simpa using hne

/-- Raising a kind sets its own flag and no other. -/
theorem hasKind_or_bit (e : EventSet) (j k : EventKind) :
    hasKind (e ||| k.bit) j = (hasKind e j || decide (j = k)) := by
  have hinj : k.number = j.number ↔ j = k := ⟨fun h => (EventKind.number_inj h).symm, fun h => h ▸ rfl⟩
  rw [hasKind_eq_getLsbD, hasKind_eq_getLsbD, EventKind.bit_eq, BitVec.getLsbD_or, BitVec.getLsbD_twoPow]
  simp [k.number_lt, hinj]

end Sys2Proof.Machine
end

section
/-! SUPPORT. The bay port link (R16), and one offer to a port: its room, its class queue, the copy made for the other
bay port (R22, R27, R28, R137, R138). -/

namespace Sys2Proof.Machine

/-! ## The bay port link (R16) -/

theorem exec_bayLinkUp (m : Master) (s : State) : exec (.bayLinkUp m) s = .next (bayUpEffect m s) := rfl

theorem exec_bayLinkDown (m : Master) (s : State) : exec (.bayLinkDown m) s = .next (bayDownEffect m s) := rfl

theorem bayUpEffect_eq (m : Master) (s : State) : bayUpEffect m s = s.setBay m { s.bays.get m with up := true } := rfl

theorem bayDownEffect_of_up {m : Master} {s : State} (h : (s.bays.get m).up = true) :
    bayDownEffect m s = s.setBay m (s.bays.get m).wentDown := if_pos h

theorem bayDownEffect_of_down {m : Master} {s : State} (h : (s.bays.get m).up = false) :
    bayDownEffect m s = s := if_neg (by simp [h])

/-- Of the frame on the wire only its transmitted count outlives the port's going down. -/
theorem BayPort.wentDown_eq (p : BayPort) : p.wentDown =
    { up := false, station := none, sendSeq := p.sendSeq, prot := [], back := [], sending := none, pacing := none,
      cnt := { p.endSending.cnt with
        flush := p.endSending.cnt.flush + BitVec.ofNat 32 (p.prot.length + p.back.length) } } := by
  unfold BayPort.wentDown BayPort.endSending
  cases hs : p.sending with
  | none => simp only [hs]
  | some f => rfl

/-- Settles O43: the port after the change is read off, with the wire's count by the queue the frame left. -/
theorem bayLinkUpAndDown : Obligations.BayLinkUpAndDown := by
  intro m s p cnt
  have hcnt : p.endSending.cnt = cnt := by
    simp only [cnt, BayPort.endSending]
    cases p.sending with
    | none => rfl
    | some f =>
      obtain ⟨queue, wire⟩ := f
      cases queue <;> rfl
  refine ⟨?_, fun hup => ?_, fun hdown => ?_⟩
  · rw [exec_bayLinkUp, bayUpEffect_eq]
  · rw [exec_bayLinkDown, bayDownEffect_of_up hup, BayPort.wentDown_eq, hcnt]
  · rw [exec_bayLinkDown, bayDownEffect_of_down hdown]

/-! ## Classes and addresses (R17) -/

theorem classByTable_eq (s : State) (a : Addr) : classByTable s a =
    if isGroup a = true then (match findGroup s.groups a with
      | none => .bulk
      | some (_, g) => g.cls.traffic) else .bulk := by
  unfold classByTable
  cases findGroup s.groups a <;> rfl

theorem classByTable_ne_rollCall (s : State) (a : Addr) : classByTable s a ≠ .rollCall := by
  unfold classByTable
  split
  · split
    · rename_i g _
      cases g.cls <;> nofun
    · nofun
  · nofun

/-- An address that is neither broadcast nor a group address is individual. -/
theorem isGroup_eq_false_iff {a : Addr} (ha : a ≠ Config.broadcast) : isGroup a = false ↔ groupBit a = false := by
  simp [isGroup, ha]

/-! ## Room, class queues and counts of a port -/

theorem LinePort.hasRoom_iff (p : LinePort) (cls : TrafficClass) :
    p.hasRoom cls = true ↔ if cls = .bulk then p.back.length < 96 else p.prot.length < 48 := by
  cases cls <;> exact decide_eq_true_iff

theorem LinePort.enqueue_eq (p : LinePort) (f : Frame) :
    p.enqueue f = if f.cls = .bulk then { p with back := p.back ++ [f] } else { p with prot := p.prot ++ [f] } := by
  obtain ⟨cls, data⟩ := f
  cases cls <;> rfl

theorem LinePort.accepts_eq_false_iff (p : LinePort) (cls : TrafficClass) :
    p.accepts cls = false ↔ p.state = .down ∨ ¬ p.hasRoom cls = true := by
  simp [LinePort.accepts, imp_iff_not_or]

theorem LinePort.offer_of_down {p : LinePort} (f : Frame) (h : p.state = .down) : p.offer f = p := if_pos h

theorem LinePort.offer_of_room {p : LinePort} {f : Frame} (h : p.state ≠ .down) (hr : p.hasRoom f.cls = true) :
    p.offer f = p.enqueue f := by
  rw [LinePort.offer, if_neg h, if_pos hr]

theorem LinePort.offer_of_full {p : LinePort} {f : Frame} (h : p.state ≠ .down) (hr : ¬ p.hasRoom f.cls = true) :
    p.offer f = { p with cnt := p.cnt.shed f.cls } := by
  rw [LinePort.offer, if_neg h, if_neg hr]

theorem BayPort.hasRoom_iff (p : BayPort) (cls : TrafficClass) :
    p.hasRoom cls = true ↔ if cls = .bulk then p.back.length < 128 else p.prot.length < 64 := by
  cases cls <;> exact decide_eq_true_iff

theorem BayPort.enqueue_eq (p : BayPort) (f : Frame) :
    p.enqueue f = if f.cls = .bulk then { p with back := p.back ++ [f] } else { p with prot := p.prot ++ [f] } := by
  obtain ⟨cls, data⟩ := f
  cases cls <;> rfl

theorem BayCounts.drop_queue_eq (c : BayCounts) (cls : TrafficClass) : c.drop cls.queue =
    if cls = .bulk then { c with dropBack := c.dropBack + 1 } else { c with dropProt := c.dropProt + 1 } := by
  cases cls <;> rfl

/-! ## The decision of an offer to a bay port (R137) -/

section
variable {m : Master} {cls : TrafficClass} {s : State}

theorem bayOutcome_of_shed (hup : (s.bays.get m).up = true)
    (hs : cls = .bulk ∧ s.alert = .alert ∧ (s.bayCfg.get m).shedding = true) : bayOutcome m cls s = .shed := by
  rw [bayOutcome, if_neg (by simp [hup]), if_pos hs]

theorem bayOutcome_of_room (hup : (s.bays.get m).up = true)
    (hs : ¬ (cls = .bulk ∧ s.alert = .alert ∧ (s.bayCfg.get m).shedding = true))
    (hr : (s.bays.get m).hasRoom cls = true) : bayOutcome m cls s = .enqueued := by
  rw [bayOutcome, if_neg (by simp [hup]), if_neg hs, if_pos hr]

theorem bayOutcome_of_full (hup : (s.bays.get m).up = true)
    (hs : ¬ (cls = .bulk ∧ s.alert = .alert ∧ (s.bayCfg.get m).shedding = true))
    (hr : ¬ (s.bays.get m).hasRoom cls = true) : bayOutcome m cls s = .full := by
  rw [bayOutcome, if_neg (by simp [hup]), if_neg hs, if_neg hr]

theorem bayOutcome_eq_full_iff : bayOutcome m cls s = .full ↔ (s.bays.get m).up = true ∧
    ¬ (cls = .bulk ∧ s.alert = .alert ∧ (s.bayCfg.get m).shedding = true) ∧ ¬ (s.bays.get m).hasRoom cls = true := by
  refine ⟨fun h => ?_, fun ⟨hup, hs, hr⟩ => bayOutcome_of_full hup hs hr⟩
  unfold bayOutcome at h
  split at h
  · cases h
  · rename_i hup
    split at h
    · cases h
    · rename_i hs
      split at h
      · cases h
      · rename_i hr
        exact ⟨by simpa using hup, hs, hr⟩

end

/-! ## The local copy at its port (R22) -/

/-- What an offer of a local copy makes of its port, by the decision of the offer. -/
def BayPort.copied (f : Frame) (p : BayPort) : BayOutcome → BayPort
  | .linkDown => p
  | .shed => { p with cnt := { p.cnt with shedBay := p.cnt.shedBay + 1 } }
  | .full => { p with cnt := p.cnt.drop f.cls.queue }
  | .enqueued => { p.enqueue f with cnt := { p.cnt with localRx := p.cnt.localRx + 1 } }

theorem BayPort.enqueue_cnt (p : BayPort) (f : Frame) : (p.enqueue f).cnt = p.cnt := by
  rw [BayPort.enqueue_eq]
  split <;> rfl

theorem offerLocal_bays (m : Master) (f : Frame) (s : State) :
    (offerLocal m f s).bays = s.bays.set m ((s.bays.get m).copied f (bayOutcome m f.cls s)) := by
  cases h : bayOutcome m f.cls s <;> simp [offerLocal, offerBay, h, BayPort.copied, BayPort.enqueue_cnt]

theorem offerLocal_links (m : Master) (f : Frame) (s : State) : (offerLocal m f s).links =
    if bayOutcome m f.cls s = .full then ⟨s.links.one.raise .queueDrop, s.links.two.raise .queueDrop⟩ else s.links := by
  cases h : bayOutcome m f.cls s <;> simp [offerLocal, offerBay, h]

end Sys2Proof.Machine
end

section
/-! SUPPORT. The path of one relay frame (chapter 2, 2.2): what each of its steps does to the own port, the other bay
port, the line ports, the links and the alert unit. -/

namespace Sys2Proof.Machine

/-! ## Step 1: the trip report (R18, R143) -/

/-- The state after the trip report that a frame of a class makes, if it makes one. -/
def State.reported (cls : TrafficClass) (s : State) : State := if cls = .trip then tripReport s else s

section
variable (cls : TrafficClass) (s : State)

theorem reported_frame : ∃ a h k, s.reported cls = { s with alert := a, alertHold := h, links := k } := by
  unfold State.reported
  split
  · obtain ⟨k, h⟩ := tripReport_frame s
    exact ⟨_, _, k, h⟩
  · exact ⟨_, _, _, rfl⟩

@[simp] theorem reported_lines : (s.reported cls).lines = s.lines := by
  obtain ⟨a, h, k, e⟩ := reported_frame cls s
  rw [e]

@[simp] theorem reported_bays : (s.reported cls).bays = s.bays := by
  obtain ⟨a, h, k, e⟩ := reported_frame cls s
  rw [e]

@[simp] theorem reported_groups : (s.reported cls).groups = s.groups := by
  obtain ⟨a, h, k, e⟩ := reported_frame cls s
  rw [e]

@[simp] theorem reported_quiet : (s.reported cls).quiet = s.quiet := by
  obtain ⟨a, h, k, e⟩ := reported_frame cls s
  rw [e]

@[simp] theorem reported_bayCfg : (s.reported cls).bayCfg = s.bayCfg := by
  obtain ⟨a, h, k, e⟩ := reported_frame cls s
  rw [e]

theorem reported_alert : (s.reported cls).alert = if cls = .trip then .alert else s.alert := by
  unfold State.reported
  split
  · obtain ⟨k, h⟩ := tripReport_frame s
    rw [h]
  · rfl

theorem reported_alertHold :
    (s.reported cls).alertHold = if cls = .trip then some s.globals.alertHold else s.alertHold := by
  unfold State.reported
  split
  · obtain ⟨k, h⟩ := tripReport_frame s
    rw [h]
  · rfl

theorem reported_links : (s.reported cls).links =
    if cls = .trip ∧ s.alert = .calm then ⟨s.links.one.raise .alert, s.links.two.raise .alert⟩ else s.links := by
  unfold State.reported
  by_cases ht : cls = .trip
  · by_cases hc : s.alert = .calm <;> simp [ht, hc, tripReport]
  · simp [ht]

end

/-- A class other than trip leaves the alert state alone. -/
theorem reported_alert_of_bulk (s : State) : (s.reported .bulk).alert = s.alert := reported_alert .bulk s

/-! ## Step 2: the source met at the own port (R19, R20) -/

theorem BayPort.meet_eq (src : Addr) (p : BayPort) : p.meet src =
    { p with
      station := match p.station with
        | none => if groupBit src then none else some src
        | some a => some a
      cnt := { p.cnt with foreign := p.cnt.foreign + (match p.station with
        | none => if groupBit src then 1 else 0
        | some a => if a = src then 0 else 1) } } := by
  obtain ⟨up, station, sendSeq, prot, back, sending, pacing, cnt⟩ := p
  cases station with
  | none => by_cases h : groupBit src <;> simp [BayPort.meet, h]
  | some a => by_cases h : a = src <;> simp [BayPort.meet, h]

/-- Meeting a source changes no count but foreign source, and the station address. -/
theorem BayPort.meet_frame (src : Addr) (p : BayPort) :
    ∃ a n, p.meet src = { p with station := a, cnt := { p.cnt with foreign := n } } :=
  ⟨_, _, BayPort.meet_eq src p⟩

/-! ## Step 3: the local copy (R21, R22) -/

theorem localCopyTo_iff (y : Master) (dest : Addr) (s : State) : localCopyTo y dest s = true ↔
    (s.bays.get y).up = true ∧ (dest = Config.broadcast ∨
      (isGroup dest = true ∧ ∃ i g, findGroup s.groups dest = some (i, g) ∧ g.members.get y = true) ∨
      (groupBit dest = false ∧ (s.bays.get y).station = some dest)) := by
  rw [localCopyTo, Bool.and_eq_true]
  refine and_congr_right fun _ => ?_
  by_cases hb : dest = Config.broadcast
  · simp [hb]
  · by_cases hg : isGroup dest = true
    · have hbit : groupBit dest ≠ false := fun h => by simp [(isGroup_eq_false_iff hb).2 h] at hg
      cases hf : findGroup s.groups dest with
      | none => simp [hb, hg, hbit]
      | some e =>
        obtain ⟨i, g⟩ := e
        simp [hb, hg, hbit]
    · have hbit : groupBit dest = false := (isGroup_eq_false_iff hb).1 (by simpa using hg)
      simp [hb, hg, hbit]

theorem localCopyTo_congr {y : Master} {s t : State} (dest : Addr) (hb : t.bays.get y = s.bays.get y)
    (hg : t.groups = s.groups) : localCopyTo y dest t = localCopyTo y dest s := by
  simp only [localCopyTo, hb, hg]

theorem bayOutcome_congr {y : Master} {cls : TrafficClass} {s t : State} (hb : t.bays.get y = s.bays.get y)
    (hc : t.bayCfg = s.bayCfg) (ha : cls = .bulk → t.alert = s.alert) :
    bayOutcome y cls t = bayOutcome y cls s := by
  unfold bayOutcome
  rw [hb, hc]
  by_cases h : cls = .bulk
  · rw [ha h]
  · simp [h]

/-- The state after the local copy of a frame to bay port `y`, if it gets one. -/
def State.copiedTo (y : Master) (f : Frame) (s : State) : State :=
  if localCopyTo y (destOf f.data) s then offerLocal y f s else s

theorem copiedTo_frame (y : Master) (f : Frame) (s : State) :
    ∃ b k, s.copiedTo y f = { s with bays := b, links := k } := by
  unfold State.copiedTo
  split
  · exact offerLocal_frame s y f
  · exact ⟨_, _, rfl⟩

theorem copiedTo_bays (y : Master) (f : Frame) (s : State) : (s.copiedTo y f).bays =
    if localCopyTo y (destOf f.data) s then s.bays.set y ((s.bays.get y).copied f (bayOutcome y f.cls s))
    else s.bays := by
  unfold State.copiedTo
  split
  · exact offerLocal_bays y f s
  · rfl

theorem copiedTo_links (y : Master) (f : Frame) (s : State) : (s.copiedTo y f).links =
    if localCopyTo y (destOf f.data) s = true ∧ bayOutcome y f.cls s = .full then
      ⟨s.links.one.raise .queueDrop, s.links.two.raise .queueDrop⟩
    else s.links := by
  unfold State.copiedTo
  by_cases h : localCopyTo y (destOf f.data) s = true <;> simp [h, offerLocal_links]

/-! ## Steps 1 to 3 together -/

/-- The state in which the lane checks find a relay frame. -/
def State.beforeLanes (x : Master) (data : List Byte) (s : State) : State :=
  ((s.reported (classByTable s (destOf data))).onBay x (.meet (sourceOf data))).copiedTo (otherMaster x)
    ⟨classByTable s (destOf data), data⟩

theorem relayFrame_eq (x : Master) (data : List Byte) (s : State) :
    relayFrame x data s = sendToLanes x (classByTable s (destOf data)) data (s.beforeLanes x data) := rfl

/-- A good frame on a Link-up bay port takes the path. -/
theorem exec_relayFrame {x : Master} {f : RxFrame} {s : State} (hup : (s.bays.get x).up = true)
    (hf : frameGood f = true) : exec (.bayFrameReceive x f) s = .next (relayFrame x f.data s) := by
  rw [exec_bayFrameReceive, bayFrameEffect, if_neg (by simp [hup]), if_neg (by simp [hf])]

section
variable (x : Master) (data : List Byte) (s : State)

theorem beforeLanes_frame : ∃ b a h k,
    s.beforeLanes x data = { s with bays := b, alert := a, alertHold := h, links := k } := by
  unfold State.beforeLanes
  obtain ⟨a, h, k, e⟩ := reported_frame (classByTable s (destOf data)) s
  obtain ⟨b, k', e'⟩ := copiedTo_frame (otherMaster x) ⟨classByTable s (destOf data), data⟩
    ((s.reported (classByTable s (destOf data))).onBay x (.meet (sourceOf data)))
  rw [e', e]
  exact ⟨_, _, _, _, rfl⟩

@[simp] theorem beforeLanes_lines : (s.beforeLanes x data).lines = s.lines := by
  obtain ⟨b, a, h, k, e⟩ := beforeLanes_frame x data s
  rw [e]

@[simp] theorem beforeLanes_quiet : (s.beforeLanes x data).quiet = s.quiet := by
  obtain ⟨b, a, h, k, e⟩ := beforeLanes_frame x data s
  rw [e]

@[simp] theorem beforeLanes_bayCfg : (s.beforeLanes x data).bayCfg = s.bayCfg := by
  obtain ⟨b, a, h, k, e⟩ := beforeLanes_frame x data s
  rw [e]

theorem beforeLanes_alert : (s.beforeLanes x data).alert =
    if classByTable s (destOf data) = .trip then .alert else s.alert := by
  obtain ⟨b, k, e⟩ := copiedTo_frame (otherMaster x) ⟨classByTable s (destOf data), data⟩
    ((s.reported (classByTable s (destOf data))).onBay x (.meet (sourceOf data)))
  rw [State.beforeLanes, e]
  exact reported_alert _ s

theorem beforeLanes_alertHold : (s.beforeLanes x data).alertHold =
    if classByTable s (destOf data) = .trip then some s.globals.alertHold else s.alertHold := by
  obtain ⟨b, k, e⟩ := copiedTo_frame (otherMaster x) ⟨classByTable s (destOf data), data⟩
    ((s.reported (classByTable s (destOf data))).onBay x (.meet (sourceOf data)))
  rw [State.beforeLanes, e]
  exact reported_alertHold _ s

/-- The copy is called for, and decided, as by the state the frame came into. -/
theorem localCopyTo_met (dest : Addr) (cls : TrafficClass) (src : Addr) :
    localCopyTo (otherMaster x) dest ((s.reported cls).onBay x (.meet src)) = localCopyTo (otherMaster x) dest s :=
  localCopyTo_congr dest (by simp) (by simp)

theorem bayOutcome_met (cls : TrafficClass) (src : Addr) :
    bayOutcome (otherMaster x) cls ((s.reported cls).onBay x (.meet src)) = bayOutcome (otherMaster x) cls s :=
  bayOutcome_congr (by simp) (by simp) fun h => by simpa [h] using reported_alert_of_bulk s

theorem beforeLanes_own : (s.beforeLanes x data).bays.get x = (s.bays.get x).meet (sourceOf data) := by
  have hx : ∀ (b : PerMaster BayPort) (p : BayPort), (b.set (otherMaster x) p).get x = b.get x := fun b p => by
    simpa using PerMaster.get_set_other b (otherMaster x) p
  rw [State.beforeLanes, copiedTo_bays]
  split <;> simp [hx]

theorem beforeLanes_other : (s.beforeLanes x data).bays.get (otherMaster x) =
    if localCopyTo (otherMaster x) (destOf data) s then
      (s.bays.get (otherMaster x)).copied ⟨classByTable s (destOf data), data⟩
        (bayOutcome (otherMaster x) (classByTable s (destOf data)) s)
    else s.bays.get (otherMaster x) := by
  rw [State.beforeLanes, copiedTo_bays]
  dsimp only
  rw [localCopyTo_met, bayOutcome_met]
  split <;> simp

theorem beforeLanes_links : (s.beforeLanes x data).links =
    let told := (s.reported (classByTable s (destOf data))).links
    if localCopyTo (otherMaster x) (destOf data) s = true ∧
        bayOutcome (otherMaster x) (classByTable s (destOf data)) s = .full then
      ⟨told.one.raise .queueDrop, told.two.raise .queueDrop⟩
    else told := by
  simp only [State.beforeLanes, copiedTo_links, localCopyTo_met, bayOutcome_met, onBay_links]

end

/-! ## Step 4: the lane checks (R23 to R25) -/

theorem maxSpan_eq : Config.maxSpan = 1514 := rfl

section
variable {x : Master} {cls : TrafficClass} {n : Nat} {s : State}

theorem laneCheck_of_oversize (hn : 1514 < n) : laneCheck x cls n s = .oversize := by
  rw [laneCheck, maxSpan_eq, if_pos hn]

theorem laneCheck_of_quiet (hn : n ≤ 1514) (hq : s.quiet ≠ none) : laneCheck x cls n s = .quiet := by
  rw [laneCheck, maxSpan_eq, if_neg (Nat.not_lt.2 hn), if_pos (Option.isSome_iff_ne_none.2 hq)]

theorem laneCheck_of_shed (hn : n ≤ 1514) (hq : s.quiet = none)
    (h : s.alert = .alert ∧ cls = .bulk ∧ (s.bayCfg.get x).shedding = true) : laneCheck x cls n s = .shed := by
  rw [laneCheck, maxSpan_eq, if_neg (Nat.not_lt.2 hn), if_neg (by simp [hq]), if_pos h]

theorem laneCheck_of_passed (hn : n ≤ 1514) (hq : s.quiet = none)
    (h : ¬ (s.alert = .alert ∧ cls = .bulk ∧ (s.bayCfg.get x).shedding = true)) :
    laneCheck x cls n s = .passed := by
  rw [laneCheck, maxSpan_eq, if_neg (Nat.not_lt.2 hn), if_neg (by simp [hq]), if_neg h]

theorem laneCheck_congr {t : State} (hq : t.quiet = s.quiet) (hc : t.bayCfg = s.bayCfg)
    (ha : cls = .bulk → t.alert = s.alert) : laneCheck x cls n t = laneCheck x cls n s := by
  unfold laneCheck
  rw [hq, hc]
  by_cases h : cls = .bulk
  · rw [ha h]
  · simp [h]

end

/-- Steps 1 to 3 do not change what the lane checks make of the frame. -/
theorem laneCheck_beforeLanes (x : Master) (data : List Byte) (n : Nat) (s : State) :
    laneCheck x (classByTable s (destOf data)) n (s.beforeLanes x data) =
      laneCheck x (classByTable s (destOf data)) n s :=
  laneCheck_congr (by simp) (by simp) fun h => by simp [beforeLanes_alert, h]

/-! ## Step 5: the number and the offers (R26 to R30) -/

section
variable (x : Master) (cls : TrafficClass) (body : List Byte) (s : State)

/-- The own port of a frame that was numbered; the sent counts and the lost count are told apart by R29 and R30. -/
theorem sendNumbered_own : (sendNumbered x cls body s).bays.get x =
    { s.bays.get x with
      sendSeq := (s.bays.get x).sendSeq + 1
      cnt := { (s.bays.get x).cnt.sent cls with
        lost := (s.bays.get x).cnt.lost +
          if s.lines.a.accepts cls = false ∧ s.lines.b.accepts cls = false then 1 else 0 } } := by
  have hlost : ((s.bays.get x).cnt.sent cls).lost = (s.bays.get x).cnt.lost := by cases cls <;> rfl
  unfold sendNumbered
  by_cases ha : s.lines.a.accepts cls = false ∧ s.lines.b.accepts cls = false
  · simp [ha, hlost]
  · have hn : (!s.lines.a.accepts cls && !s.lines.b.accepts cls) = false := by simpa using ha
    rw [if_neg ha]
    simp [hn, ← hlost]

theorem sendNumbered_frame : ∃ b, sendNumbered x cls body s =
    { s with
      bays := b
      lines := ⟨s.lines.a.offer (laneCopy .a (s.bays.get x).sendSeq cls body),
                s.lines.b.offer (laneCopy .b (s.bays.get x).sendSeq cls body)⟩ } := by
  unfold sendNumbered
  dsimp only
  split <;> exact ⟨_, rfl⟩

theorem sendToLanes_frame : ∃ n b, sendToLanes x cls body s = { s with lines := n, bays := b } := by
  unfold sendToLanes
  split
  · exact ⟨_, _, rfl⟩
  · exact ⟨_, _, rfl⟩
  · exact ⟨_, _, rfl⟩
  · obtain ⟨b, e⟩ := sendNumbered_frame x cls body s
    exact ⟨_, b, e⟩

theorem sendToLanes_other : (sendToLanes x cls body s).bays.get (otherMaster x) = s.bays.get (otherMaster x) := by
  unfold sendToLanes
  split
  · simp
  · simp
  · simp
  · unfold sendNumbered
    dsimp only
    split <;> simp

end

section
variable {x : Master} {cls : TrafficClass} {body : List Byte} {s : State}

theorem sendToLanes_of_oversize (h : laneCheck x cls body.length s = .oversize) :
    sendToLanes x cls body s = s.countBay x fun c => { c with oversize := c.oversize + 1 } := by
  rw [sendToLanes, h]

theorem sendToLanes_of_quiet (h : laneCheck x cls body.length s = .quiet) :
    sendToLanes x cls body s = s.countBay x fun c => { c with quiet := c.quiet + 1 } := by
  rw [sendToLanes, h]

theorem sendToLanes_of_shed (h : laneCheck x cls body.length s = .shed) :
    sendToLanes x cls body s = s.countBay x fun c => { c with shedLanes := c.shedLanes + 1 } := by
  rw [sendToLanes, h]

theorem sendToLanes_of_passed (h : laneCheck x cls body.length s = .passed) :
    sendToLanes x cls body s = sendNumbered x cls body s := by
  rw [sendToLanes, h]

end

theorem countBay_own_frame (x : Master) {f : BayCounts → BayCounts} (hf : ∀ c, (f c).foreign = c.foreign) (s : State) :
    ∃ n c, (s.countBay x f).bays.get x = { s.bays.get x with sendSeq := n, cnt := c } ∧
      c.foreign = (s.bays.get x).cnt.foreign :=
  ⟨_, _, PerMaster.get_set _ _ _, hf _⟩

/-- The lanes take nothing of the own port but its number and its counts, and never its foreign count. -/
theorem sendToLanes_own_frame (x : Master) (cls : TrafficClass) (body : List Byte) (s : State) :
    ∃ n c, (sendToLanes x cls body s).bays.get x = { s.bays.get x with sendSeq := n, cnt := c } ∧
      c.foreign = (s.bays.get x).cnt.foreign := by
  cases h : laneCheck x cls body.length s with
  | oversize =>
    rw [sendToLanes_of_oversize h]
    exact countBay_own_frame x (fun _ => by rfl) s
  | quiet =>
    rw [sendToLanes_of_quiet h]
    exact countBay_own_frame x (fun _ => by rfl) s
  | shed =>
    rw [sendToLanes_of_shed h]
    exact countBay_own_frame x (fun _ => by rfl) s
  | passed =>
    rw [sendToLanes_of_passed h]
    refine ⟨_, _, sendNumbered_own x cls body s, ?_⟩
    cases cls <;> rfl

/-! ## The whole path -/

section
variable (x : Master) (data : List Byte) (s : State)

theorem relayFrame_alert : (relayFrame x data s).alert =
    if classByTable s (destOf data) = .trip then .alert else s.alert := by
  obtain ⟨n, b, e⟩ := sendToLanes_frame x (classByTable s (destOf data)) data (s.beforeLanes x data)
  rw [relayFrame_eq, e]
  exact beforeLanes_alert x data s

theorem relayFrame_alertHold : (relayFrame x data s).alertHold =
    if classByTable s (destOf data) = .trip then some s.globals.alertHold else s.alertHold := by
  obtain ⟨n, b, e⟩ := sendToLanes_frame x (classByTable s (destOf data)) data (s.beforeLanes x data)
  rw [relayFrame_eq, e]
  exact beforeLanes_alertHold x data s

theorem relayFrame_other : (relayFrame x data s).bays.get (otherMaster x) =
    if localCopyTo (otherMaster x) (destOf data) s then
      (s.bays.get (otherMaster x)).copied ⟨classByTable s (destOf data), data⟩
        (bayOutcome (otherMaster x) (classByTable s (destOf data)) s)
    else s.bays.get (otherMaster x) := by
  rw [relayFrame_eq, sendToLanes_other, beforeLanes_other]

/-- The flags of either link: ALERT from Calm for a trip frame, and QUEUE DROP for a local copy without room. -/
theorem relayFrame_link (m : Master) : (relayFrame x data s).links.get m =
    let k := s.links.get m
    let told := if classByTable s (destOf data) = .trip ∧ s.alert = .calm then k.raise .alert else k
    if localCopyTo (otherMaster x) (destOf data) s = true ∧
        bayOutcome (otherMaster x) (classByTable s (destOf data)) s = .full then told.raise .queueDrop
    else told := by
  obtain ⟨n, b, e⟩ := sendToLanes_frame x (classByTable s (destOf data)) data (s.beforeLanes x data)
  rw [relayFrame_eq, e]
  dsimp only
  rw [beforeLanes_links, reported_links]
  dsimp only
  cases m <;> split <;> split <;> rfl

theorem relayFrame_frame : relayFrame x data s =
    { s with
      alert := (relayFrame x data s).alert, alertHold := (relayFrame x data s).alertHold,
      bays := (relayFrame x data s).bays, lines := (relayFrame x data s).lines,
      links := (relayFrame x data s).links } := by
  obtain ⟨b, a, h, k, e⟩ := beforeLanes_frame x data s
  obtain ⟨n, b', e'⟩ := sendToLanes_frame x (classByTable s (destOf data)) data (s.beforeLanes x data)
  rw [relayFrame_eq, e', e]

/-- The own port keeps its link, queues, transmission and pacing timer; its station and foreign count are R19's. -/
theorem relayFrame_own_frame : ∃ n c, (relayFrame x data s).bays.get x =
    { (s.bays.get x).meet (sourceOf data) with sendSeq := n, cnt := c } ∧
      c.foreign = ((s.bays.get x).meet (sourceOf data)).cnt.foreign := by
  rw [relayFrame_eq, ← beforeLanes_own]
  exact sendToLanes_own_frame x _ data _

end

end Sys2Proof.Machine
end

section
/-! SUPPORT. The statements about one relay frame (chapter 2): its copy for the other bay port, its two copies on the
lanes, and what the lane checks withhold. -/

namespace Sys2Proof.Machine

/-! ## The other bay port -/

/-- Settles O48: the path leaves the other port as the decision of its offer makes it, and each link with the flags of
the report and of a drop. -/
theorem localCopyGoesToTheOtherBay : Obligations.LocalCopyGoesToTheOtherBay := by
  intro x f s y q dest cls called shed room hup hf
  have hcalled : localCopyTo y dest s = true ↔ called := localCopyTo_iff y dest s
  have hroom : q.hasRoom cls = true ↔ room := BayPort.hasRoom_iff q cls
  have hport (h : called) :
      (relayFrame x f.data s).bays.get y = q.copied ⟨cls, f.data⟩ (bayOutcome y cls s) := by
    rw [relayFrame_other, if_pos (hcalled.2 h)]
  have hfull : localCopyTo y dest s = true ∧ bayOutcome y cls s = .full ↔ called ∧ ¬ shed ∧ ¬ room := by
    rw [hcalled, bayOutcome_eq_full_iff, hroom]
    exact and_congr_right fun h => and_iff_right h.1
  refine ⟨_, exec_relayFrame hup hf, fun h => ?_, fun h hs => ?_, fun h hs hr => ?_, fun h hs hr => ?_, fun m => ?_⟩
  · rw [relayFrame_other, if_neg (mt hcalled.1 h)]
  · rw [hport h, bayOutcome_of_shed h.1 hs]
    rfl
  · rw [hport h, bayOutcome_of_room h.1 hs (hroom.2 hr), BayPort.copied, BayPort.enqueue_eq]
    dsimp only
    split <;> rfl
  · rw [hport h, bayOutcome_of_full h.1 hs (mt hroom.1 hr), BayPort.copied, BayCounts.drop_queue_eq]
    dsimp only
    split <;> rfl
  · have htold (k : ControlLink) : (if cls = .trip ∧ s.alert = .calm then k.raise .alert else k) =
        { k with flags := if cls = .trip ∧ s.alert = .calm then k.flags ||| EventKind.alert.bit else k.flags } := by
      split <;> rfl
    have hlink := relayFrame_link x f.data s m
    refine ⟨fun h => ?_, fun h => ?_⟩
    · rw [hlink, if_pos (hfull.2 h), htold]
      rfl
    · rw [hlink, if_neg (mt hfull.1 h), htold]

/-! ## The frame on the lanes -/

theorem BayCounts.sent_eq {cls : TrafficClass} (h : cls ≠ .rollCall) (c : BayCounts) : c.sent cls =
    { c with
      sentTrip := c.sentTrip + (if cls = .trip then 1 else 0)
      sentSample := c.sentSample + (if cls = .sample then 1 else 0)
      sentBulk := c.sentBulk + (if cls = .bulk then 1 else 0) } := by
  cases cls with
  | rollCall => exact absurd rfl h
  | _ => simp [BayCounts.sent]

theorem LineCounts.shed_eq {cls : TrafficClass} (c : LineCounts) : cls ≠ .rollCall → c.shed cls =
    (match cls with
      | .trip => { c with shedTrip := c.shedTrip + 1 }
      | .sample => { c with shedSample := c.shedSample + 1 }
      | _ => { c with shedBulk := c.shedBulk + 1 }) := by
  cases cls with
  | rollCall => exact fun h => absurd rfl h
  | _ => exact fun _ => rfl

section
variable {x : Master} {data : List Byte} {s : State}

theorem relayFrame_of_passed (h : laneCheck x (classByTable s (destOf data)) data.length s = .passed) :
    relayFrame x data s = sendNumbered x (classByTable s (destOf data)) data (s.beforeLanes x data) := by
  rw [relayFrame_eq, sendToLanes_of_passed (by rw [laneCheck_beforeLanes, h])]

theorem relayFrame_own_of_passed (h : laneCheck x (classByTable s (destOf data)) data.length s = .passed) :
    (relayFrame x data s).bays.get x =
      { (s.bays.get x).meet (sourceOf data) with
        sendSeq := ((s.bays.get x).meet (sourceOf data)).sendSeq + 1
        cnt := { ((s.bays.get x).meet (sourceOf data)).cnt.sent (classByTable s (destOf data)) with
          lost := ((s.bays.get x).meet (sourceOf data)).cnt.lost +
            if s.lines.a.accepts (classByTable s (destOf data)) = false ∧
               s.lines.b.accepts (classByTable s (destOf data)) = false then 1 else 0 } } := by
  rw [relayFrame_of_passed h, sendNumbered_own, beforeLanes_own, beforeLanes_lines]

theorem relayFrame_line_of_passed (h : laneCheck x (classByTable s (destOf data)) data.length s = .passed) (l : Lane) :
    (relayFrame x data s).lines.get l =
      (s.lines.get l).offer (laneCopy l (s.bays.get x).sendSeq (classByTable s (destOf data)) data) := by
  have hseq : ((s.beforeLanes x data).bays.get x).sendSeq = (s.bays.get x).sendSeq := by
    obtain ⟨a, n, e⟩ := BayPort.meet_frame (sourceOf data) (s.bays.get x)
    rw [beforeLanes_own, e]
  obtain ⟨b, e⟩ := sendNumbered_frame x (classByTable s (destOf data)) data (s.beforeLanes x data)
  rw [relayFrame_of_passed h, e, hseq, beforeLanes_lines]
  cases l <;> rfl

/-- A frame that a check withholds changes one count of its port, and no line port. -/
theorem relayFrame_of_withheld {f : BayCounts → BayCounts}
    (h : sendToLanes x (classByTable s (destOf data)) data (s.beforeLanes x data) =
      (s.beforeLanes x data).countBay x f) :
    (relayFrame x data s).bays.get x =
        { (s.bays.get x).meet (sourceOf data) with cnt := f ((s.bays.get x).meet (sourceOf data)).cnt } ∧
      (relayFrame x data s).lines = s.lines := by
  rw [relayFrame_eq, h]
  simp [beforeLanes_own]

end

/-- Settles O45: the own port and the two offers of a frame that every lane check lets pass. -/
theorem relayFrameGoesOutOnBothLanes : Obligations.RelayFrameGoesOutOnBothLanes := by
  intro x f s p cls seq room copy
  refine ⟨classByTable_eq s, fun hup hf hq hlen hshed => ⟨_, exec_relayFrame hup hf, ?_⟩⟩
  have hcls : cls ≠ .rollCall := classByTable_ne_rollCall s _
  have hpass : laneCheck x cls f.data.length s = .passed :=
    laneCheck_of_passed hlen hq fun ⟨ha, hb, hs⟩ => hshed ⟨hb, ha, hs⟩
  have hroom (q : LinePort) : q.hasRoom cls = true ↔ room q := LinePort.hasRoom_iff q cls
  have hrefused (q : LinePort) : q.accepts cls = false ↔ q.state = .down ∨ ¬ room q := by
    rw [LinePort.accepts_eq_false_iff, hroom]
  obtain ⟨a, n, hmeet⟩ := BayPort.meet_frame (sourceOf f.data) p
  have hown := relayFrame_own_of_passed hpass
  rw [hmeet, BayCounts.sent_eq hcls] at hown
  rw [hown]
  refine ⟨rfl, fun l => ?_, rfl, rfl, rfl, ?_, rfl, ?_⟩
  · intro q
    rw [relayFrame_line_of_passed hpass]
    by_cases hd : q.state = .down
    · rw [if_pos hd, LinePort.offer_of_down _ hd]
    · rw [if_neg hd]
      by_cases hr : room q
      · rw [if_pos hr, LinePort.offer_of_room hd ((hroom q).2 hr), LinePort.enqueue_eq]
        rfl
      · rw [if_neg hr, LinePort.offer_of_full hd (mt (hroom q).1 hr)]
        exact congrArg (fun c => { q with cnt := c }) (LineCounts.shed_eq q.cnt hcls)
  · simp only [← hrefused]
    rfl
  · rw [relayFrame_frame]

/-! ## The lane checks, the station and the report -/

/-- Settles O46: the report and the frame of the whole path, then the own port by the check that withholds. -/
theorem laneChecksWithholdAndStationIsLearned : Obligations.LaneChecksWithholdAndStationIsLearned := by
  intro x f s p src bulk hup hf trip
  refine ⟨_, exec_relayFrame hup hf, relayFrame_alert x f.data s, relayFrame_alertHold x f.data s, fun m => ?_,
    relayFrame_frame x f.data s, fun m => ?_, ?_⟩
  · have hne : EventKind.alert ≠ .queueDrop := nofun
    rw [relayFrame_link]
    dsimp only
    by_cases ht : trip ∧ s.alert = .calm
    · rw [if_pos ht]
      split <;> simp [hasKind_or_bit, ht]
    · rw [if_neg ht]
      split <;> simp [hasKind_or_bit, ht]
  · rw [relayFrame_link]
    dsimp only
    split <;> split <;> rfl
  · have hmeet := BayPort.meet_eq src p
    obtain ⟨k, c, hown, hforeign⟩ := relayFrame_own_frame x f.data s
    have hcheck : ∀ {v : LaneCheck}, laneCheck x (classByTable s (destOf f.data)) f.data.length s = v →
        laneCheck x (classByTable s (destOf f.data)) f.data.length (s.beforeLanes x f.data) = v := fun h => by
      rw [laneCheck_beforeLanes, h]
    refine ⟨?_, ?_, fun hn => ?_, fun hn hq => ?_, fun hn hq hb ha hs => ?_⟩
    · generalize (relayFrame x f.data s).bays.get x = q at hown
      subst hown
      exact congrArg (fun r : BayPort => { r with sendSeq := k, cnt := c }) hmeet
    · calc ((relayFrame x f.data s).bays.get x).cnt.foreign
          _ = c.foreign := congrArg (fun q : BayPort => q.cnt.foreign) hown
          _ = (p.meet src).cnt.foreign := hforeign
          _ = _ := congrArg (fun q : BayPort => q.cnt.foreign) hmeet
    · obtain ⟨hport, hlines⟩ :=
        relayFrame_of_withheld (sendToLanes_of_oversize (hcheck (laneCheck_of_oversize hn)))
      rw [hport, hmeet]
      exact ⟨rfl, rfl, hlines⟩
    · obtain ⟨hport, hlines⟩ :=
        relayFrame_of_withheld (sendToLanes_of_quiet (hcheck (laneCheck_of_quiet hn hq)))
      rw [hport, hmeet]
      exact ⟨rfl, rfl, hlines⟩
    · obtain ⟨hport, hlines⟩ :=
        relayFrame_of_withheld (sendToLanes_of_shed (hcheck (laneCheck_of_shed hn hq ⟨ha, hb, hs⟩)))
      rw [hport, hmeet]
      exact ⟨rfl, rfl, hlines⟩

end Sys2Proof.Machine
end

section
/-! SUPPORT. The numbers a bay port has given out: only the numbering of a relay frame moves its send sequence counter
and its sent counts, and it moves them together (R26, R30). -/

namespace Sys2Proof.Machine

/-! ## The sequence counter and the sum of the sent counts -/

/-- The send sequence counter of a bay port, with the sum of its three sent counts. -/
def BayPort.numbering (p : BayPort) : SeqNo × Count := (p.sendSeq, p.cnt.sentSum)

/-- The numbering of each bay port. -/
def State.numbering (s : State) (m : Master) : SeqNo × Count := (s.bays.get m).numbering

theorem numbering_of_bays {s t : State} (h : t.bays = s.bays) : t.numbering = s.numbering := by
  unfold State.numbering
  rw [h]

theorem onBay_numbering (m : Master) {f : BayPort → BayPort} (s : State) (hf : ∀ p, (f p).numbering = p.numbering) :
    (s.onBay m f).numbering = s.numbering := by
  funext k
  simp only [State.numbering, onBay_bays, PerMaster.get_set_eq]
  split
  · next h => rw [hf, h]
  · rfl

theorem countBay_numbering (m : Master) {f : BayCounts → BayCounts} (s : State)
    (hf : ∀ c, (f c).sentSum = c.sentSum) : (s.countBay m f).numbering = s.numbering :=
  onBay_numbering m s fun p => by simp only [BayPort.numbering, hf]

theorem BayPort.meet_numbering (src : Addr) (p : BayPort) : (p.meet src).numbering = p.numbering := by
  obtain ⟨a, n, e⟩ := BayPort.meet_frame src p
  rw [e]
  rfl

theorem BayPort.enqueue_numbering (f : Frame) (p : BayPort) : (p.enqueue f).numbering = p.numbering := by
  rw [BayPort.enqueue_eq]
  split <;> rfl

theorem BayPort.endSending_numbering (p : BayPort) : p.endSending.numbering = p.numbering := by
  unfold BayPort.endSending
  cases p.sending with
  | none => rfl
  | some f => cases hq : f.queue <;> simp [hq, BayPort.numbering, BayCounts.sentSum, BayCounts.transmitted]

theorem BayPort.wentDown_numbering (p : BayPort) : p.wentDown.numbering = p.numbering := by
  rw [← p.endSending_numbering, BayPort.wentDown_eq]
  unfold BayPort.endSending
  cases p.sending <;> rfl

theorem BayPort.takeNext_numbering (gap : Nat) (p : BayPort) : (p.takeNext gap).numbering = p.numbering := by
  unfold BayPort.takeNext
  split
  · rfl
  · split <;> rfl
  · rfl

/-! ## Offers and deliveries keep the numbering -/

section
variable (s : State)

theorem offerBay_numbering (m : Master) (f : Frame) : (offerBay m f s).numbering = s.numbering := by
  unfold offerBay
  split
  · rfl
  · exact countBay_numbering m s fun _ => by rfl
  · exact countBay_numbering m s fun _ => by cases f.cls.queue <;> rfl
  · exact onBay_numbering m s (BayPort.enqueue_numbering f)

theorem offerLocal_numbering (m : Master) (f : Frame) : (offerLocal m f s).numbering = s.numbering := by
  unfold offerLocal
  split
  · exact (countBay_numbering m _ fun _ => by rfl).trans (offerBay_numbering s m f)
  · exact offerBay_numbering s m f

theorem offerWhere_numbering (pick : Master → Bool) (f : Frame) :
    (offerWhere pick f s).numbering = s.numbering := by
  unfold offerWhere
  dsimp only
  split <;> split <;> simp only [offerBay_numbering]

theorem countUnknown_numbering (m : Master) : (countUnknown m s).numbering = s.numbering := by
  unfold countUnknown
  split
  · rfl
  · exact countBay_numbering m s fun _ => by rfl

theorem deliver_numbering (l : Lane) (a : Addr) (f : Frame) : (deliver l a f s).numbering = s.numbering := by
  unfold deliver
  split
  · exact offerWhere_numbering s _ f
  · split
    · split
      · exact offerWhere_numbering s _ f
      · rw [offerWhere_numbering, countUnknown_numbering, countUnknown_numbering]
    · split
      · exact offerWhere_numbering s _ f
      · rfl

theorem reported_numbering (cls : TrafficClass) : (s.reported cls).numbering = s.numbering :=
  numbering_of_bays (reported_bays cls s)

theorem rollCallUnit_numbering (i : Option Nat) (l : Lane) (t : Tagged) :
    (rollCallUnit i l t s).numbering = s.numbering := by
  obtain ⟨n, q, o, k, e⟩ := rollCallUnit_frame s i l t
  rw [e]
  rfl

theorem handOn_numbering (i : Option Nat) (l : Lane) (t : Tagged) : (handOn i l t s).numbering = s.numbering := by
  rw [← reported_numbering s t.cls]
  unfold handOn
  dsimp only
  split
  · exact rollCallUnit_numbering _ i l t
  · split
    · rfl
    · exact deliver_numbering _ l t.dest _

theorem untagged_numbering (l : Lane) (data : List Byte) : (untagged l data s).numbering = s.numbering := by
  unfold untagged
  split
  · rfl
  · exact deliver_numbering s l _ _

theorem filterCopy_numbering (a : Addr) (c : Copy) : (filterCopy a c s).1.numbering = s.numbering := by
  obtain ⟨n, q, o, k, e⟩ := filterCopy_frame s a c
  rw [e]
  rfl

theorem pairFilter_numbering (l : Lane) (t : Tagged) : (pairFilter l t s).numbering = s.numbering := by
  unfold pairFilter
  split
  · rfl
  · have kept := filterCopy_numbering s t.source ⟨l, t.seq, s.tick⟩
    generalize filterCopy t.source ⟨l, t.seq, s.tick⟩ s = judged at kept
    obtain ⟨s', out⟩ := judged
    cases out with
    | overflow => exact (handOn_numbering _ none l t).trans kept
    | judged i v =>
      dsimp only
      split
      · exact (handOn_numbering s' (some i) l t).trans kept
      · exact kept

theorem lineFrameEffect_numbering (l : Lane) (f : RxFrame) : (lineFrameEffect l f s).numbering = s.numbering := by
  unfold lineFrameEffect
  split
  · rfl
  · split
    · rfl
    · split
      · exact untagged_numbering s l _
      · exact untagged_numbering _ l _
      · exact pairFilter_numbering s l _

/-! ## The bay ports' own commands keep the numbering -/

theorem bayUpEffect_numbering (m : Master) : (bayUpEffect m s).numbering = s.numbering :=
  onBay_numbering m s fun _ => by rfl

theorem bayDownEffect_numbering (m : Master) : (bayDownEffect m s).numbering = s.numbering := by
  unfold bayDownEffect
  split
  · exact onBay_numbering m s BayPort.wentDown_numbering
  · rfl

theorem bayTransmitEffect_numbering (m : Master) : (bayTransmitEffect m s).numbering = s.numbering := by
  unfold bayTransmitEffect
  split
  · exact onBay_numbering m s (BayPort.takeNext_numbering _)
  · rfl

theorem bayDoneEffect_numbering (m : Master) : (bayDoneEffect m s).numbering = s.numbering :=
  onBay_numbering m s BayPort.endSending_numbering

theorem pacingEffect_numbering (m : Master) : (pacingEffect m s).numbering = s.numbering := by
  have hstop : (s.onBay m fun p => { p with pacing := none }).numbering = s.numbering :=
    onBay_numbering m s fun _ => by rfl
  unfold pacingEffect
  dsimp only
  split
  · rfl
  · split
    · rw [bayTransmitEffect_numbering, hstop]
    · exact hstop

end

/-! ## Commands that leave the bay ports alone -/

section
variable (s : State)

theorem takeCommand_bays (m : Master) (x : Args) {own : List Byte → State} (h : ∀ bytes, (own bytes).bays = s.bays) :
    (takeCommand m x s own).bays = s.bays := by
  obtain e | ⟨e, -⟩ | ⟨bytes, -, -, -, e⟩ := takeCommand_cases s m x own
  · rw [e, reply_bays]
  · rw [e, reply_bays]
  · rw [e, h]

theorem takeFixed_bays (m : Master) (n : Nat) (x : Args) {own : List Byte → State}
    (h : ∀ bytes, (own bytes).bays = s.bays) : (takeFixed m n x s own).bays = s.bays := by
  obtain e | ⟨e, -⟩ | ⟨bytes, -, -, -, e⟩ := takeFixed_cases s m n x own
  · rw [e, reply_bays]
  · rw [e, reply_bays]
  · rw [e, h]

theorem readGroupEffect_bays (m : Master) (x : Args) : (readGroupEffect m x s).bays = s.bays :=
  takeFixed_bays s m 1 x fun bytes => by split <;> rfl

theorem readOriginEffect_bays (m : Master) (x : Args) : (readOriginEffect m x s).bays = s.bays :=
  takeFixed_bays s m 2 x fun bytes => by
    split
    · rfl
    · split <;> rfl

theorem readPortEffect_bays (m : Master) (x : Args) : (readPortEffect m x s).bays = s.bays :=
  takeFixed_bays s m 2 x fun bytes => by split <;> rfl

theorem stageEffect_bays (m : Master) (x : Args) : (stageEffect m x s).bays = s.bays :=
  takeCommand_bays s m x fun bytes => by
    split
    · rfl
    · split
      · rfl
      · split <;> rfl

theorem discardEffect_bays (m : Master) (x : Args) : (discardEffect m x s).bays = s.bays :=
  takeFixed_bays s m 0 x fun bytes => by split <;> rfl

theorem applyEffect_bays (m : Master) (x : Args) : (applyEffect m x s).bays = s.bays :=
  takeFixed_bays s m 0 x fun bytes => by split <;> rfl

theorem saveSetEffect_bays (m : Master) (x : Args) : (saveSetEffect m x s).bays = s.bays :=
  takeFixed_bays s m 1 x fun bytes => by
    dsimp only
    split
    · rfl
    · split
      · rfl
      · split
        · rfl
        · exact setUserSet_bays s _ _

theorem selectEffect_bays (m : Master) (x : Args) : (selectEffect m x s).bays = s.bays :=
  takeFixed_bays s m 1 x fun bytes => by split <;> rfl

theorem restartEffect_bays (m : Master) (x : Args) : (restartEffect m x s).bays = s.bays :=
  takeFixed_bays s m 0 x fun bytes => by split <;> rfl

theorem saveCompletionEffect_bays (verified : Bool) : (saveCompletionEffect verified s).bays = s.bays := by
  unfold saveCompletionEffect
  split
  · rfl
  · cases verified with
    | false => rfl
    | true => exact setUserSet_bays _ _ _

theorem applyTakenEffect_bays : (applyTakenEffect s).bays = s.bays := by
  have taken (m : Master) : (takeApply m s).bays = s.bays := by
    obtain ⟨o, q, g, gl, bc, k, st, e⟩ := takeApply_frame s m
    rw [e]
  unfold applyTakenEffect
  split
  · exact taken .m1
  · split
    · exact taken .m2
    · rfl

theorem cutEffect_bays (m : Master) (bs : List Byte) : (cutEffect m bs s).bays = s.bays := by
  unfold cutEffect
  split <;> rfl

theorem announce_bays : (announce s).bays = s.bays := by
  obtain ⟨n, q, e⟩ := announce_frame s
  rw [e]

theorem quietEndEffect_bays : (quietEndEffect s).bays = s.bays := by
  unfold quietEndEffect
  split
  · rfl
  · exact announce_bays _

theorem rollTimerEffect_bays : (rollTimerEffect s).bays = s.bays := by
  unfold rollTimerEffect
  split
  · rfl
  · exact announce_bays s

theorem alertHoldEffect_bays : (alertHoldEffect s).bays = s.bays := by
  unfold alertHoldEffect
  split <;> rfl

theorem lineLossEffect_bays (l : Lane) : (lineLossEffect l s).bays = s.bays := by
  unfold lineLossEffect
  split
  · rfl
  · dsimp only
    split <;> rfl

theorem glitchEffect_bays (l : Lane) : (glitchEffect l s).bays = s.bays := by
  unfold glitchEffect
  split <;> rfl

theorem linkFailEffect_bays (l : Lane) : (linkFailEffect l s).bays = s.bays := by
  unfold linkFailEffect
  split <;> rfl

theorem lineUpEffect_bays (l : Lane) : (lineUpEffect l s).bays = s.bays := by
  unfold lineUpEffect
  split
  · obtain ⟨n, o, k, e⟩ := lineUp_frame s l
    rw [e]
  · rfl

theorem settleEffect_bays (l : Lane) : (settleEffect l s).bays = s.bays := by
  unfold settleEffect
  split
  · obtain ⟨n, o, k, e⟩ := enterProbing_frame s l
    rw [e]
  · rfl

theorem probeLimitEffect_bays (l : Lane) : (probeLimitEffect l s).bays = s.bays := by
  unfold probeLimitEffect
  split <;> rfl

theorem lineTransmitEffect_bays (l : Lane) : (lineTransmitEffect l s).bays = s.bays := by
  unfold lineTransmitEffect
  split <;> rfl

theorem endEvent_bays (cause : Bool) (before : Level) (i : Nat) : (endEvent cause before i s).bays = s.bays := by
  obtain ⟨o, k, e⟩ := endEvent_frame s cause before i
  rw [e]

theorem pairExpiryEffect_bays (i : Nat) : (pairExpiryEffect i s).bays = s.bays := by
  unfold pairExpiryEffect
  split
  · rfl
  · split
    · rfl
    · exact endEvent_bays _ _ _ i

theorem silenceExpiryEffect_bays (i : Nat) : (silenceExpiryEffect i s).bays = s.bays := by
  unfold silenceExpiryEffect
  split
  · rfl
  · split
    · rfl
    · exact endEvent_bays _ _ _ i

theorem forgetExpiryEffect_bays (i : Nat) : (forgetExpiryEffect i s).bays = s.bays := by
  unfold forgetExpiryEffect
  split
  · rfl
  · split <;> rfl

theorem holdExpiryEffect_bays (i : Nat) : (holdExpiryEffect i s).bays = s.bays := by
  unfold holdExpiryEffect
  split
  · rfl
  · split
    · rfl
    · exact endEvent_bays _ _ _ i

end

/-- Of the commands other than the resets, only a relay frame changes the numbering of a bay port. -/
theorem exec_numbering {c : Instr} {s t : State} (h : exec c s = .next t) (hpower : ∀ p, c ≠ .powerOn p)
    (hpin : ∀ p, c ≠ .resetPin p) (hrestart : ∀ p, c ≠ .restartTakesEffect p)
    (hrelay : ∀ x f, c ≠ .bayFrameReceive x f) : t.numbering = s.numbering := by
  cases c with
  | powerOn p => exact absurd rfl (hpower p)
  | resetPin p => exact absurd rfl (hpin p)
  | restartTakesEffect p => exact absurd rfl (hrestart p)
  | bayFrameReceive x f => exact absurd rfl (hrelay x f)
  | startQuietEnd => cases h; exact numbering_of_bays (quietEndEffect_bays s)
  | lineFrameReceive l f => cases h; exact lineFrameEffect_numbering s l f
  | bayLinkUp m => cases h; exact bayUpEffect_numbering s m
  | bayLinkDown m => cases h; exact bayDownEffect_numbering s m
  | lineLinkLoss l => cases h; exact numbering_of_bays (lineLossEffect_bays s l)
  | glitch l => cases h; exact numbering_of_bays (glitchEffect_bays s l)
  | linkFailExpiry l => cases h; exact numbering_of_bays (linkFailEffect_bays s l)
  | lineLinkUp l => cases h; exact numbering_of_bays (lineUpEffect_bays s l)
  | settleExpiry l => cases h; exact numbering_of_bays (settleEffect_bays s l)
  | probeLimitExpiry l => cases h; exact numbering_of_bays (probeLimitEffect_bays s l)
  | rollCallTimerExpiry => cases h; exact numbering_of_bays (rollTimerEffect_bays s)
  | lineTransmitStart l => cases h; exact numbering_of_bays (lineTransmitEffect_bays s l)
  | lineTransmitDone l => cases h; rfl
  | bayTransmitStart m => cases h; exact bayTransmitEffect_numbering s m
  | bayTransmitDone m => cases h; exact bayDoneEffect_numbering s m
  | pacingTimerExpiry m => cases h; exact pacingEffect_numbering s m
  | pairExpiry i => cases h; exact numbering_of_bays (pairExpiryEffect_bays s i)
  | silenceExpiry i => cases h; exact numbering_of_bays (silenceExpiryEffect_bays s i)
  | forgetExpiry i => cases h; exact numbering_of_bays (forgetExpiryEffect_bays s i)
  | holdExpiry i => cases h; exact numbering_of_bays (holdExpiryEffect_bays s i)
  | alertHoldExpiry => cases h; exact numbering_of_bays (alertHoldEffect_bays s)
  | secondsTick => cases h; rfl
  | cutTransaction m bs => cases h; exact numbering_of_bays (cutEffect_bays s m bs)
  | unknownCommand m code x => cases h; rfl
  | identify m x => cases h; exact numbering_of_bays (takeFixed_bays s m 0 x fun _ => rfl)
  | readOrigin m x => cases h; exact numbering_of_bays (readOriginEffect_bays s m x)
  | findOrigin m x => cases h; exact numbering_of_bays (takeFixed_bays s m 6 x fun _ => rfl)
  | readGroup m x => cases h; exact numbering_of_bays (readGroupEffect_bays s m x)
  | readPort m x => cases h; exact numbering_of_bays (readPortEffect_bays s m x)
  | readTime m x => cases h; exact numbering_of_bays (takeFixed_bays s m 0 x fun _ => rfl)
  | stage m x => cases h; exact numbering_of_bays (stageEffect_bays s m x)
  | discardStaging m x => cases h; exact numbering_of_bays (discardEffect_bays s m x)
  | apply m x => cases h; exact numbering_of_bays (applyEffect_bays s m x)
  | applyTaken => cases h; exact numbering_of_bays (applyTakenEffect_bays s)
  | readApplyResult m x => cases h; exact numbering_of_bays (takeFixed_bays s m 0 x fun _ => rfl)
  | readEvents m x => cases h; exact numbering_of_bays (takeFixed_bays s m 0 x fun _ => rfl)
  | ackEvents m x => cases h; exact numbering_of_bays (takeFixed_bays s m 2 x fun _ => rfl)
  | setEventMask m x => cases h; exact numbering_of_bays (takeFixed_bays s m 2 x fun _ => rfl)
  | readChanges m x => cases h; exact numbering_of_bays (takeFixed_bays s m 0 x fun _ => rfl)
  | ackRestart m x => cases h; exact numbering_of_bays (takeFixed_bays s m 0 x fun _ => rfl)
  | saveSet m x => cases h; exact numbering_of_bays (saveSetEffect_bays s m x)
  | saveCompletion verified => cases h; exact numbering_of_bays (saveCompletionEffect_bays s verified)
  | selectStartSet m x => cases h; exact numbering_of_bays (selectEffect_bays s m x)
  | restart m x => cases h; exact numbering_of_bays (restartEffect_bays s m x)

/-! ## A relay frame advances its own port by at most 1 -/

theorem BayCounts.sentSum_sent {cls : TrafficClass} (h : cls ≠ .rollCall) (c : BayCounts) :
    (c.sent cls).sentSum = c.sentSum + 1 := by
  cases cls with
  | rollCall => exact absurd rfl h
  | bulk => simp only [BayCounts.sent, BayCounts.sentSum]; ac_rfl
  | sample => simp only [BayCounts.sent, BayCounts.sentSum]; ac_rfl
  | trip => simp only [BayCounts.sent, BayCounts.sentSum]; ac_rfl

theorem beforeLanes_numbering (x : Master) (data : List Byte) (s : State) :
    (s.beforeLanes x data).numbering = s.numbering := by
  have hmet := (onBay_numbering x (s.reported (classByTable s (destOf data)))
    (BayPort.meet_numbering (sourceOf data))).trans (reported_numbering s _)
  unfold State.beforeLanes State.copiedTo
  split
  · exact (offerLocal_numbering _ _ _).trans hmet
  · exact hmet

theorem sendNumbered_numbering (x : Master) {cls : TrafficClass} (hcls : cls ≠ .rollCall) (body : List Byte)
    (s : State) : (sendNumbered x cls body s).numbering x = s.numbering x + (1, 1) := by
  rw [State.numbering, sendNumbered_own]
  exact Prod.ext rfl (BayCounts.sentSum_sent hcls _)

/-- Both parts of a port's numbering rise by `d`, each in its own width. -/
def AdvancesBy (d : Nat) (before after : SeqNo × Count) : Prop :=
  after.1 = before.1 + BitVec.ofNat 16 d ∧ after.2 = before.2 + BitVec.ofNat 32 d

theorem advancesBy_zero_of_eq {p q : SeqNo × Count} (h : q = p) : AdvancesBy 0 p q := by
  simp [AdvancesBy, h]

theorem eq_otherMaster_of_ne : ∀ {m x : Master}, m ≠ x → m = otherMaster x
  | .m1, .m1, h => absurd rfl h
  | .m1, .m2, _ => rfl
  | .m2, .m1, _ => rfl
  | .m2, .m2, h => absurd rfl h

/-- A frame that passes the lane checks takes one number at its own port; nothing else takes any. -/
theorem sendToLanes_advances (x m : Master) {cls : TrafficClass} (hcls : cls ≠ .rollCall) (body : List Byte)
    (s : State) : ∃ d ≤ 1, AdvancesBy d (s.numbering m) ((sendToLanes x cls body s).numbering m) := by
  have withheld {f : BayCounts → BayCounts} (hf : ∀ c, (f c).sentSum = c.sentSum) :
      ∃ d ≤ 1, AdvancesBy d (s.numbering m) ((s.countBay x f).numbering m) :=
    ⟨0, Nat.zero_le 1, advancesBy_zero_of_eq (congrFun (countBay_numbering x s hf) m)⟩
  by_cases hm : m = x
  · subst hm
    cases h : laneCheck m cls body.length s with
    | oversize => rw [sendToLanes_of_oversize h]; exact withheld fun _ => by rfl
    | quiet => rw [sendToLanes_of_quiet h]; exact withheld fun _ => by rfl
    | shed => rw [sendToLanes_of_shed h]; exact withheld fun _ => by rfl
    | passed =>
      rw [sendToLanes_of_passed h, sendNumbered_numbering m hcls]
      exact ⟨1, Nat.le_refl 1, rfl, rfl⟩
  · obtain rfl := eq_otherMaster_of_ne hm
    exact ⟨0, Nat.zero_le 1, advancesBy_zero_of_eq (congrArg BayPort.numbering (sendToLanes_other x cls body s))⟩

theorem bayFrameEffect_advances (x m : Master) (f : RxFrame) (s : State) :
    ∃ d ≤ 1, AdvancesBy d (s.numbering m) ((bayFrameEffect x f s).numbering m) := by
  unfold bayFrameEffect
  split
  · exact ⟨0, Nat.zero_le 1, advancesBy_zero_of_eq rfl⟩
  · split
    · exact ⟨0, Nat.zero_le 1, advancesBy_zero_of_eq (congrFun (countBay_numbering x s fun _ => by rfl) m)⟩
    · rw [relayFrame_eq, ← beforeLanes_numbering x f.data s]
      exact sendToLanes_advances x m (classByTable_ne_rollCall s _) f.data _

/-- Settles O47: a relay frame advances its port by at most 1, and every other command keeps the numbering. -/
theorem sentCountsFollowTheSequence : Obligations.SentCountsFollowTheSequence := by
  intro c s t m h hpower hpin hrestart
  by_cases hrelay : ∃ x f, c = .bayFrameReceive x f
  · obtain ⟨x, f, rfl⟩ := hrelay
    cases h
    exact bayFrameEffect_advances x m f s
  · have hkept := exec_numbering h hpower hpin hrestart fun x f e => hrelay ⟨x, f, e⟩
    exact ⟨0, Nat.zero_le 1, advancesBy_zero_of_eq (congrFun hkept m)⟩

end Sys2Proof.Machine
end

section
/-! SUPPORT. Closing a pair (R72 to R75): what it changes of the record and of the ports, and the count identity of
R53 through the events of one record. -/

namespace Sys2Proof.Machine

/-! ## Miss runs and lane states -/

theorem laneStateOf_ne_silent (limit : Nat) (miss : PerLane Nat) : laneStateOf limit miss ≠ .silent := by
  unfold laneStateOf
  split <;> split <;> nofun

/-- The lane state after it is recomputed under a limit. -/
def LanePart.restated (limit : Nat) (l : LanePart) : LaneState :=
  if l.state = .silent then .silent else laneStateOf limit l.miss

@[simp] theorem LanePart.restated_eq_silent (limit : Nat) (l : LanePart) :
    l.restated limit = .silent ↔ l.state = .silent := by
  unfold LanePart.restated
  split <;> simp_all [laneStateOf_ne_silent]

theorem Origin.relane_eq (limit : Nat) (r : Origin) :
    r.relane limit = { r with lane := { r.lane with state := r.lane.restated limit } } := by
  unfold Origin.relane LanePart.restated
  by_cases h : r.lane.state = .silent
  · rw [if_pos h, if_pos h, ← h]
  · rw [if_neg h, if_neg h]

theorem Origin.chargeMiss_eq (limit : Nat) (x : Lane) (r : Origin) :
    let miss := r.lane.miss.set x (missRise (r.lane.miss.get x))
    r.chargeMiss limit x =
      { r with lane := { r.lane with miss := miss, state := { r.lane with miss := miss }.restated limit },
               cnt := r.cnt.miss x } := by
  rw [Origin.chargeMiss, Origin.relane_eq]

theorem Origin.clearMiss_eq (limit : Nat) (x : Lane) (r : Origin) :
    let miss := r.lane.miss.set x 0
    r.clearMiss limit x =
      { r with lane := { r.lane with miss := miss, state := { r.lane with miss := miss }.restated limit } } := by
  rw [Origin.clearMiss, Origin.relane_eq]

theorem missRise_le {n : Nat} (h : n ≤ 255) : missRise n ≤ 255 := by
  unfold missRise
  split <;> omega

/-! ## Closing one pair, and several -/

/-- What misses charged and cleared leave of a lane part: its arrival ticks, whether it is Silent, and miss runs of at
most 255. -/
def LanePart.Reckoned (l l' : LanePart) : Prop :=
  l'.last = l.last ∧ l'.lastFrame = l.lastFrame ∧ (l'.state = .silent ↔ l.state = .silent) ∧
  (l.miss.a ≤ 255 → l'.miss.a ≤ 255) ∧ (l.miss.b ≤ 255 → l'.miss.b ≤ 255)

theorem LanePart.Reckoned.refl (l : LanePart) : l.Reckoned l := ⟨rfl, rfl, Iff.rfl, id, id⟩

theorem LanePart.Reckoned.trans {l l' l'' : LanePart} (h : l.Reckoned l') (h' : l'.Reckoned l'') : l.Reckoned l'' := by
  obtain ⟨h1, h2, h3, h4, h5⟩ := h
  obtain ⟨h1', h2', h3', h4', h5'⟩ := h'
  exact ⟨h1'.trans h1, h2'.trans h2, h3'.trans h3, fun h => h4' (h4 h), fun h => h5' (h5 h)⟩

theorem chargeMiss_frame (limit : Nat) (x : Lane) (r : Origin) : ∃ l cnt,
    r.chargeMiss limit x = { r with lane := l, cnt := cnt } ∧ r.lane.Reckoned l := by
  refine ⟨_, _, Origin.chargeMiss_eq limit x r, rfl, rfl, LanePart.restated_eq_silent .., ?_⟩
  cases x with
  | a => exact ⟨missRise_le, id⟩
  | b => exact ⟨id, missRise_le⟩

theorem clearMiss_frame (limit : Nat) (x : Lane) (r : Origin) : ∃ l,
    r.clearMiss limit x = { r with lane := l } ∧ r.lane.Reckoned l := by
  refine ⟨_, Origin.clearMiss_eq limit x r, rfl, rfl, LanePart.restated_eq_silent .., ?_⟩
  cases x with
  | a => exact ⟨fun _ => Nat.zero_le _, id⟩
  | b => exact ⟨id, fun _ => Nat.zero_le _⟩

theorem closeMissing_orig (limit : Nat) (p : OpenPair) (c : Closing) : ∃ l cnt,
    (c.closeMissing limit p).orig = { c.orig with lane := l, cnt := cnt } ∧ c.orig.lane.Reckoned l := by
  unfold Closing.closeMissing
  dsimp only
  split
  · exact ⟨_, _, rfl, .refl _⟩
  · exact chargeMiss_frame limit _ c.orig

theorem closeAll_orig (limit : Nat) : ∀ (ps : List OpenPair) (c : Closing), ∃ l cnt,
    (Closing.closeAll limit ps c).orig = { c.orig with lane := l, cnt := cnt } ∧ c.orig.lane.Reckoned l
  | [], _ => ⟨_, _, rfl, .refl _⟩
  | p :: ps, c => by
    obtain ⟨l, cnt, e, hl⟩ := closeMissing_orig limit p c
    obtain ⟨l', cnt', e', hl'⟩ := closeAll_orig limit ps (c.closeMissing limit p)
    rw [e] at e' hl'
    exact ⟨l', cnt', e', hl.trans hl'⟩

/-! ## The identity of R53 -/

theorem count_zero : BitVec.ofNat 32 0 = (0 : Count) := rfl

theorem count_succ (n : Nat) : BitVec.ofNat 32 (n + 1) = BitVec.ofNat 32 n + (1 : Count) := BitVec.ofNat_add ..

/-- Each pair closed missing is charged once, to the record or to a port. -/
theorem closeMissing_owed (limit : Nat) (p : OpenPair) (c : Closing) : (c.closeMissing limit p).owed = c.owed - 1 := by
  unfold Closing.closeMissing
  dsimp only
  split
  · cases otherLane p.first <;> simp only [Closing.owed, PerLane.set, PerLane.get] <;> ring
  · rw [Origin.chargeMiss_eq]
    cases otherLane p.first <;> simp only [Closing.owed, OriginCounts.miss] <;> ring

theorem closeAll_owed (limit : Nat) : ∀ (ps : List OpenPair) (c : Closing),
    (Closing.closeAll limit ps c).owed = c.owed - BitVec.ofNat 32 ps.length
  | [], c => by simp [Closing.closeAll]
  | p :: ps, c => by
    rw [Closing.closeAll, closeAll_owed limit ps, closeMissing_owed, List.length_cons, count_succ]
    ring

/-- An exchange of the open-pair list counts by the change of its length. -/
theorem withPairs_owed (ps : List OpenPair) (c : Closing) : (c.withPairs ps).owed =
    c.owed + BitVec.ofNat 32 c.orig.win.pairs.length - BitVec.ofNat 32 ps.length := by
  simp only [Closing.owed, Closing.withPairs]
  ring

theorem closeMissing_pairs (limit : Nat) (p : OpenPair) (c : Closing) :
    (c.closeMissing limit p).orig.win.pairs = c.orig.win.pairs := by
  obtain ⟨_, _, e, -⟩ := closeMissing_orig limit p c
  rw [e]

theorem closeAll_pairs (limit : Nat) (ps : List OpenPair) (c : Closing) :
    (Closing.closeAll limit ps c).orig.win.pairs = c.orig.win.pairs := by
  obtain ⟨_, _, e, -⟩ := closeAll_orig limit ps c
  rw [e]

theorem displace_owed (limit : Nat) (c : Closing) : (c.displace limit).owed = c.owed := by
  unfold Closing.displace
  split
  · rfl
  · next p ps hp =>
    split
    · rw [withPairs_owed, closeMissing_owed, closeMissing_pairs, hp, List.length_cons, count_succ]
      ring
    · rfl

theorem accept_owed (g : JudgeSettings) (k : Copy) (c : Closing) : (c.accept g k).owed = c.owed := by
  rw [← displace_owed g.limit c]
  simp only [Closing.accept, Origin.clearMiss_eq, Closing.owed, List.length_append, List.length_singleton,
    count_succ]
  ring

/-- Among pairs of different sequences, one is left out with its sequence. -/
theorem length_filter_seq_ne : ∀ {ps : List OpenPair} {p : OpenPair}, (ps.map (·.seq)).Nodup → p ∈ ps →
    (ps.filter fun q => decide (q.seq ≠ p.seq)).length + 1 = ps.length
  | [], _, _, hp => by simp at hp
  | q :: ps, p, hn, hp => by
    obtain ⟨hq, hn⟩ := List.nodup_cons.1 hn
    have apart : ∀ p ∈ ps, p.seq ≠ q.seq := fun p hp e => hq (List.mem_map.2 ⟨p, hp, e⟩)
    rcases List.mem_cons.1 hp with rfl | hp
    · have hall : ps.filter (fun q => decide (q.seq ≠ p.seq)) = ps :=
        List.filter_eq_self.2 fun q hqm => decide_eq_true (apart q hqm)
      rw [List.filter_cons_of_neg (by simp), hall, List.length_cons]
    · rw [List.filter_cons_of_pos (by simpa using (apart p hp).symm), List.length_cons, length_filter_seq_ne hn hp,
        List.length_cons]

theorem ofNat_length_filter_seq_ne {ps : List OpenPair} {p : OpenPair} (hn : (ps.map (·.seq)).Nodup) (hp : p ∈ ps) :
    BitVec.ofNat 32 ps.length = BitVec.ofNat 32 (ps.filter fun q => decide (q.seq ≠ p.seq)).length + 1 := by
  rw [← length_filter_seq_ne hn hp, count_succ]

section
variable (g : JudgeSettings) (k : Copy) (c : Closing)

theorem judgeSeed_owed (hw : c.orig.win.pairs = []) : (judgeSeed g k c).closing.owed = c.owed := by
  rw [judgeSeed, accept_owed]
  simp only [Closing.owed, Window.seedAt, hw]

theorem judgeNewer_owed (d : Nat) : (judgeNewer g k d c).closing.owed = c.owed := by
  rw [judgeNewer]
  dsimp only
  rw [accept_owed, closeAll_owed]
  have hlen := List.length_eq_length_filter_add (l := c.orig.win.pairs)
    fun p => decide (63 < offsetBehind k.seq p.seq)
  simp only [Closing.owed]
  rw [hlen, BitVec.ofNat_add]
  ring

theorem judgeOutOfOrder_owed (offset : Nat) : (judgeOutOfOrder g k offset c).closing.owed = c.owed := by
  rw [judgeOutOfOrder, accept_owed]
  rfl

theorem judgeTwin_owed {p : OpenPair} (hn : (c.orig.win.pairs.map (·.seq)).Nodup) (hp : p ∈ c.orig.win.pairs) :
    (judgeTwin g k p c).closing.owed = c.owed := by
  simp only [judgeTwin, Origin.clearMiss_eq, Closing.owed]
  rw [ofNat_length_filter_seq_ne hn hp]
  ring

theorem judgeRepeat_owed : (judgeRepeat c).closing.owed = c.owed := rfl

theorem judgeLate_owed : (judgeLate k c).closing.owed = c.owed := by
  unfold judgeLate Closing.owed
  cases k.port <;> rfl

theorem judgeStale_owed : (judgeStale c).closing.owed = c.owed := rfl

theorem judgeResync_owed : (judgeResync g k c).closing.owed = c.owed := by
  rw [judgeResync, accept_owed]
  simp only [Closing.owed, Window.seedAt, List.length_nil, count_zero]
  ring

theorem judge_owed (hw : c.orig.win.sound) : (judge g k c).closing.owed = c.owed := by
  obtain ⟨-, -, hn, -, -, hun⟩ := hw
  unfold judge
  dsimp only
  split
  · next h => exact judgeSeed_owed g k c (hun h).2.1
  · split
    · exact judgeNewer_owed g k c _
    · split
      · exact judgeOutOfOrder_owed g k c _
      · split
        · exact judgeLate_owed k c
        · next p hp =>
          split
          · exact judgeRepeat_owed c
          · exact judgeTwin_owed g k c hn (List.mem_of_find?_eq_some hp)
    · split
      · exact judgeStale_owed c
      · exact judgeResync_owed g k c

theorem fallSilent_owed (limit : Nat) : (c.fallSilent limit).owed = c.owed := by
  have hall := closeAll_owed limit c.orig.win.pairs c
  have hpairs := closeAll_pairs limit c.orig.win.pairs c
  simp only [Closing.fallSilent, Closing.owed, hpairs, List.length_nil, count_zero] at hall ⊢
  linear_combination hall

end

/-- Settles O33: every rule keeps the identity, each pair that leaves the list being counted once. -/
theorem everyPairIsAccountedFor : Obligations.EveryPairIsAccountedFor := by
  intro g c hw
  refine ⟨fun k => judge_owed g k c hw, fun p hp => ?_, fallSilent_owed c g.limit⟩
  obtain ⟨-, -, hn, -⟩ := hw
  rw [Closing.expirePair, withPairs_owed, closeMissing_owed, closeMissing_pairs, ofNat_length_filter_seq_ne hn hp]
  ring

end Sys2Proof.Machine
end

section
/-! SUPPORT. Judgment keeps a window sound: placement in the window, an acceptance, and each verdict (R55 to R66). -/

namespace Sys2Proof.Machine

/-! ## Placement (R56) -/

theorem place_newer {high seq : SeqNo} {d : Nat} (h : place high seq = .newer d) :
    d = (seq - high).toNat ∧ 1 ≤ d ∧ d ≤ 32767 := by
  unfold place at h
  dsimp only at h
  split at h
  · cases h
  · split at h
    · cases h
      unfold seqDistance at *
      omega
    · split at h <;> cases h

theorem place_inside {high seq : SeqNo} {n : Nat} (h : place high seq = .inside n) :
    offsetBehind high seq = n ∧ n ≤ 63 := by
  unfold place at h
  dsimp only [seqDistance] at h
  unfold offsetBehind
  split at h
  · cases h
    bv_omega
  · split at h
    · cases h
    · split at h
      · cases h
        bv_omega
      · cases h

/-- A sequence behind the highest lies behind a newer copy by the sum of the two distances. -/
theorem offsetBehind_newer {high seq old : SeqNo} (hd : (seq - high).toNat ≤ 32767) (ho : offsetBehind high old ≤ 63) :
    offsetBehind seq old = offsetBehind high old + (seq - high).toNat := by
  unfold offsetBehind at *
  bv_omega

theorem offsetBehind_self (seq : SeqNo) : offsetBehind seq seq = 0 := by simp [offsetBehind]

/-! ## Open pairs within a window -/

/-- The open pairs of a window: at most eight, of different sequences, each delivered and at most 63 behind. -/
def PairsFit (high : SeqNo) (delivered : BitVec 64) (ps : List OpenPair) : Prop :=
  ps.length ≤ 8 ∧ (ps.map (·.seq)).Nodup ∧
  ∀ p ∈ ps, offsetBehind high p.seq ≤ 63 ∧ delivered.getLsbD (offsetBehind high p.seq) = true

theorem PairsFit.nil (high : SeqNo) (delivered : BitVec 64) : PairsFit high delivered [] :=
  ⟨Nat.zero_le _, List.nodup_nil, by simp⟩

theorem PairsFit.sublist {high : SeqNo} {delivered : BitVec 64} {ps qs : List OpenPair} (h : PairsFit high delivered ps)
    (hs : qs.Sublist ps) : PairsFit high delivered qs :=
  ⟨hs.length_le.trans h.1, h.2.1.sublist (hs.map _), fun p hp => h.2.2 p (hs.subset hp)⟩

/-- More delivered sequences leave the open pairs delivered. -/
theorem PairsFit.mono {high : SeqNo} {old new : BitVec 64} {ps : List OpenPair} (h : PairsFit high old ps)
    (hd : ∀ i, old.getLsbD i = true → new.getLsbD i = true) : PairsFit high new ps :=
  ⟨h.1, h.2.1, fun p hp => ⟨(h.2.2 p hp).1, hd _ (h.2.2 p hp).2⟩⟩

theorem Window.sound_iff (w : Window) : w.sound ↔ w.staleRun ≤ 2 ∧ PairsFit w.highest w.delivered w.pairs ∧
    (w.seeded = true → w.delivered.getLsbD 0 = true) ∧
    (w.seeded = false → w.delivered = 0 ∧ w.pairs = [] ∧ w.staleRun = 0) := by
  simp only [Window.sound, PairsFit, and_assoc]
  rfl

/-! ## An acceptance (R66, R70) -/

/-- The window as an acceptance finds it: the new sequence is delivered already and has no open pair. -/
def Window.Admits (w : Window) (seq : SeqNo) : Prop :=
  PairsFit w.highest w.delivered w.pairs ∧ w.delivered.getLsbD 0 = true ∧ offsetBehind w.highest seq ≤ 63 ∧
  w.delivered.getLsbD (offsetBehind w.highest seq) = true ∧ ∀ p ∈ w.pairs, p.seq ≠ seq

theorem displace_orig (limit : Nat) (c : Closing) : ∃ ps l cnt,
    (c.displace limit).orig =
      { c.orig with win := { c.orig.win with pairs := ps }, lane := l, cnt := cnt } ∧
    ps.Sublist c.orig.win.pairs ∧ (c.orig.win.pairs.length ≤ 8 → ps.length ≤ 7) ∧ c.orig.lane.Reckoned l := by
  unfold Closing.displace
  split
  · next h => exact ⟨_, _, _, rfl, List.Sublist.refl _, by simp [h], .refl _⟩
  · next p ps h =>
    split
    · obtain ⟨l, cnt, e, hl⟩ := closeMissing_orig limit p c
      refine ⟨ps, l, cnt, by simp only [Closing.withPairs, e], by simp [h], fun h8 => ?_, hl⟩
      rw [h, List.length_cons] at h8
      omega
    · next hlt => exact ⟨_, _, _, rfl, List.Sublist.refl _, fun _ => Nat.le_of_lt_succ (not_le.1 hlt), .refl _⟩

theorem accept_orig (g : JudgeSettings) (k : Copy) (c : Closing) : ∃ ps l cnt,
    (c.accept g k).orig =
      { c.orig with win := { c.orig.win with pairs := ps ++ [openPair g k], staleRun := 0 }, lane := l, cnt := cnt } ∧
    ps.Sublist c.orig.win.pairs ∧ (c.orig.win.pairs.length ≤ 8 → ps.length ≤ 7) ∧ c.orig.lane.Reckoned l := by
  obtain ⟨ps, l, cnt, e, hs, hn, hl⟩ := displace_orig g.limit c
  unfold Closing.accept
  dsimp only
  rw [e]
  obtain ⟨l', e', hl'⟩ := clearMiss_frame g.limit k.port
    { c.orig with win := { c.orig.win with pairs := ps ++ [openPair g k], staleRun := 0 }, lane := l,
                  cnt := { cnt with accepted := cnt.accepted + 1 } }
  exact ⟨ps, l', _, e', hs, hn, hl.trans hl'⟩

/-- What judgment leaves of a record that is not Silent: a sound, seeded window and miss runs of at most 255. -/
def Origin.Awake (r : Origin) : Prop :=
  r.win.sound ∧ r.win.seeded = true ∧ r.lane.miss.a ≤ 255 ∧ r.lane.miss.b ≤ 255 ∧ r.lane.state ≠ .silent

theorem Origin.Awake.judgeable {r : Origin} (h : r.Awake) : r.judgeable := by
  obtain ⟨hw, hs, ha, hb, hl⟩ := h
  exact ⟨hw, ha, hb, by simp [hs, hl]⟩

theorem Origin.judgeable.awake {r : Origin} (h : r.judgeable) (hs : r.win.seeded = true) : r.Awake := by
  obtain ⟨hw, ha, hb, hl⟩ := h
  exact ⟨hw, hs, ha, hb, fun e => by simp [hl.2 e] at hs⟩

/-- The lane part of a record that is not Silent, after misses charged and cleared. -/
theorem Awake_of_reckoned {r : Origin} {w : Window} {l : LanePart} {cnt : OriginCounts} (hw : w.sound)
    (hs : w.seeded = true) (hl : r.lane.Reckoned l) (ha : r.lane.miss.a ≤ 255) (hb : r.lane.miss.b ≤ 255)
    (hn : r.lane.state ≠ .silent) : ({ r with win := w, lane := l, cnt := cnt } : Origin).Awake := by
  obtain ⟨-, -, h3, h4, h5⟩ := hl
  exact ⟨hw, hs, h4 ha, h5 hb, fun e => hn (h3.1 e)⟩

theorem accept_awake (g : JudgeSettings) (k : Copy) (c : Closing) (hs : c.orig.win.seeded = true)
    (hw : c.orig.win.Admits k.seq) (ha : c.orig.lane.miss.a ≤ 255) (hb : c.orig.lane.miss.b ≤ 255)
    (hn : c.orig.lane.state ≠ .silent) : (c.accept g k).orig.Awake := by
  obtain ⟨hp, h0, h63, hd, hnew⟩ := hw
  obtain ⟨ps, l, cnt, e, hsub, h7, hl⟩ := accept_orig g k c
  obtain ⟨-, hnodup, hin⟩ := hp.sublist hsub
  rw [e]
  refine Awake_of_reckoned ((Window.sound_iff _).2 ⟨Nat.zero_le _, ⟨?_, ?_, ?_⟩, fun _ => h0, ?_⟩) hs hl ha hb hn
  · have := h7 hp.1
    simp only [List.length_append, List.length_singleton]
    omega
  · simp only [List.map_append, List.map_cons, List.map_nil]
    refine List.nodup_append.2 ⟨hnodup, List.nodup_singleton _, fun x hx y hy => ?_⟩
    obtain ⟨p, hpm, rfl⟩ := List.mem_map.1 hx
    rw [List.mem_singleton.1 hy]
    exact hnew p (hsub.subset hpm)
  · intro p hpm
    rcases List.mem_append.1 hpm with hpm | hpm
    · exact hin p hpm
    · rw [List.mem_singleton.1 hpm]
      exact ⟨h63, hd⟩
  · exact fun h => by simp [hs] at h

/-! ## The verdicts (R57) -/

theorem Window.admits_seedAt (w : Window) (seq : SeqNo) : (w.seedAt seq).Admits seq := by
  refine ⟨PairsFit.nil _ _, by simp [Window.seedAt], ?_, ?_, by simp [Window.seedAt]⟩ <;>
    simp [Window.seedAt, offsetBehind_self]

section
variable (g : JudgeSettings) (k : Copy) (c : Closing)

theorem judgeSeed_awake : (judgeSeed g k c).closing.orig.Awake :=
  accept_awake g k _ rfl (Window.admits_seedAt c.orig.win k.seq) (Nat.zero_le _) (Nat.zero_le _) nofun

variable {c} (h : c.orig.Awake)
include h

/-- The pairs kept by a newer copy are delivered at their new distance. -/
theorem judgeNewer_awake {d : Nat} (hp : place c.orig.win.highest k.seq = .newer d) :
    (judgeNewer g k d c).closing.orig.Awake := by
  obtain ⟨hd, h1, hd'⟩ := place_newer hp
  obtain ⟨hw, hs, ha, hb, hn⟩ := h
  obtain ⟨-, hfit, -, -⟩ := (Window.sound_iff _).1 hw
  unfold judgeNewer
  dsimp only
  generalize hgone : c.orig.win.pairs.filter _ = gone
  generalize hkept : c.orig.win.pairs.filter (fun p => !decide (63 < offsetBehind k.seq p.seq)) = kept
  have hmem : ∀ p ∈ kept, p ∈ c.orig.win.pairs ∧ offsetBehind k.seq p.seq ≤ 63 := fun p hpm => by
    rw [← hkept, List.mem_filter] at hpm
    simpa using hpm
  have hsub : kept.Sublist c.orig.win.pairs := by rw [← hkept]; exact List.filter_sublist
  have hoff : ∀ p ∈ kept, offsetBehind k.seq p.seq = offsetBehind c.orig.win.highest p.seq + d := fun p hpm =>
    hd ▸ offsetBehind_newer (hd ▸ hd') (hfit.2.2 p (hmem p hpm).1).1
  obtain ⟨l, cnt, e, h1', h2', h3', h4', h5'⟩ := closeAll_orig g.limit gone
    { c with orig := { c.orig with win := { c.orig.win with
      highest := k.seq, delivered := c.orig.win.delivered <<< d ||| 1, pairs := kept } } }
  refine accept_awake g k _ ?_ ?_ ?_ ?_ ?_ <;> rw [e]
  · exact hs
  · refine ⟨⟨hsub.length_le.trans hfit.1, hfit.2.1.sublist (hsub.map _), fun p hpm => ⟨(hmem p hpm).2, ?_⟩⟩, ?_, ?_, ?_,
      fun p hpm e => ?_⟩
    · have hbit := (hfit.2.2 p (hmem p hpm).1).2
      have hle := (hmem p hpm).2
      rw [hoff p hpm] at hle ⊢
      rw [BitVec.getLsbD_or, BitVec.getLsbD_shiftLeft, Nat.add_sub_cancel, hbit]
      simp [show offsetBehind c.orig.win.highest p.seq + d < 64 by omega]
    · simp
    · simp [offsetBehind_self]
    · simp [offsetBehind_self]
    · have := hoff p hpm
      rw [e, offsetBehind_self] at this
      omega
  · exact h4' ha
  · exact h5' hb
  · exact fun e => hn (h3'.1 e)

theorem judgeOutOfOrder_awake {n : Nat} (hp : place c.orig.win.highest k.seq = .inside n)
    (hnew : c.orig.win.delivered.getLsbD n = false) : (judgeOutOfOrder g k n c).closing.orig.Awake := by
  obtain ⟨hn, h63⟩ := place_inside hp
  obtain ⟨hw, hs, ha, hb, hl⟩ := h
  obtain ⟨-, hfit, h0, -⟩ := (Window.sound_iff _).1 hw
  have hmono : ∀ i, c.orig.win.delivered.getLsbD i = true →
      (c.orig.win.delivered ||| 1#64 <<< n).getLsbD i = true := fun i hi => by rw [BitVec.getLsbD_or, hi]; rfl
  refine accept_awake g k _ hs ⟨hfit.mono hmono, hmono 0 (h0 hs), hn ▸ h63, ?_, fun p hpm e => ?_⟩ ha hb hl
  · rw [hn, BitVec.getLsbD_or]
    simp [show n < 64 by omega]
  · have := (hfit.2.2 p hpm).2
    rw [e, hn, hnew] at this
    cases this

theorem judgeTwin_awake (p : OpenPair) : (judgeTwin g k p c).closing.orig.Awake := by
  obtain ⟨hw, hs, ha, hb, hl⟩ := h
  obtain ⟨-, hfit, h0, -⟩ := (Window.sound_iff _).1 hw
  unfold judgeTwin
  dsimp only
  obtain ⟨l, e, hr⟩ := clearMiss_frame g.limit k.port
    { c.orig with win := { c.orig.win with
                    pairs := c.orig.win.pairs.filter fun q => decide (q.seq ≠ p.seq), staleRun := 0 },
                  cnt := { c.orig.cnt with twins := c.orig.cnt.twins + 1 } }
  rw [e]
  exact Awake_of_reckoned (r := c.orig) ((Window.sound_iff _).2
    ⟨Nat.zero_le _, hfit.sublist List.filter_sublist, h0, fun hf => by simp [hs] at hf⟩) hs hr ha hb hl

/-- A verdict that is no acceptance and no twin changes the stale run and a count. -/
theorem awake_of_staleRun {n : Nat} (hn : n ≤ 2) (cnt : OriginCounts) :
    ({ c.orig with win := { c.orig.win with staleRun := n }, cnt := cnt } : Origin).Awake := by
  obtain ⟨hw, hs, ha, hb, hl⟩ := h
  obtain ⟨-, hfit, h0, -⟩ := (Window.sound_iff _).1 hw
  exact ⟨(Window.sound_iff _).2 ⟨hn, hfit, h0, fun hf => by simp [hs] at hf⟩, hs, ha, hb, hl⟩

theorem judgeResync_awake : (judgeResync g k c).closing.orig.Awake := by
  obtain ⟨-, -, ha, hb, hl⟩ := h
  exact accept_awake g k _ rfl (Window.admits_seedAt c.orig.win k.seq) ha hb hl

end

/-- A judged record is not Silent, and its window is sound. -/
theorem judge_awake (g : JudgeSettings) (k : Copy) {c : Closing} (h : c.orig.judgeable) :
    (judge g k c).closing.orig.Awake := by
  unfold judge
  dsimp only
  split
  · exact judgeSeed_awake g k c
  · next hs =>
    have hk := h.awake (by simpa using hs)
    split
    · next d hp => exact judgeNewer_awake g k hk hp
    · next n hp =>
      split
      · next hnew => exact judgeOutOfOrder_awake g k hk hp hnew
      · split
        · exact awake_of_staleRun hk (Nat.zero_le _) _
        · split
          · exact awake_of_staleRun hk (Nat.zero_le _) _
          · exact judgeTwin_awake g k hk _
    · split
      · next hlt => exact awake_of_staleRun hk (by omega) _
      · exact judgeResync_awake g k hk

/-- Judgment seeds exactly an unseeded window. -/
theorem judge_verdict_eq_seed (g : JudgeSettings) (k : Copy) (c : Closing) :
    (judge g k c).verdict = .seed ↔ c.orig.win.seeded = false := by
  unfold judge
  dsimp only
  split
  · next h => exact iff_of_true rfl h
  · next h =>
    refine iff_of_false ?_ h
    split
    · nofun
    · split
      · nofun
      · split
        · nofun
        · split <;> nofun
    · split <;> nofun

/-- Judgment changes of a record its window, lane part and counters alone. -/
theorem judge_orig (g : JudgeSettings) (k : Copy) (c : Closing) : ∃ w l cnt,
    (judge g k c).closing.orig = { c.orig with win := w, lane := l, cnt := cnt } := by
  have accepted (w : Window) (l : LanePart) (cnt : OriginCounts) (lines : PerLane LinePort) : ∃ w' l' cnt',
      (Closing.accept g k ⟨lines, { c.orig with win := w, lane := l, cnt := cnt }⟩).orig =
        { c.orig with win := w', lane := l', cnt := cnt' } := by
    obtain ⟨ps, l', cnt', e, -⟩ := accept_orig g k ⟨lines, { c.orig with win := w, lane := l, cnt := cnt }⟩
    exact ⟨_, _, _, e⟩
  unfold judge
  dsimp only
  split
  · exact accepted _ _ _ _
  · split
    · next d _ =>
      obtain ⟨l, cnt, e, -⟩ := closeAll_orig g.limit
        (c.orig.win.pairs.filter fun p => decide (63 < offsetBehind k.seq p.seq))
        { c with orig := { c.orig with win := { c.orig.win with
          highest := k.seq, delivered := c.orig.win.delivered <<< d ||| 1,
          pairs := c.orig.win.pairs.filter fun p => !decide (63 < offsetBehind k.seq p.seq) } } }
      unfold judgeNewer
      dsimp only
      generalize Closing.closeAll g.limit _ _ = closed at e ⊢
      obtain ⟨lines, r⟩ := closed
      dsimp only at e
      subst e
      exact accepted _ _ _ _
    · split
      · exact accepted _ _ _ _
      · split
        · exact ⟨_, _, _, rfl⟩
        · split
          · exact ⟨_, _, _, rfl⟩
          · next p _ _ =>
            obtain ⟨l, e, -⟩ := clearMiss_frame g.limit k.port
              { c.orig with win := { c.orig.win with
                              pairs := c.orig.win.pairs.filter fun q => decide (q.seq ≠ p.seq), staleRun := 0 },
                            cnt := { c.orig.cnt with twins := c.orig.cnt.twins + 1 } }
            exact ⟨_, _, _, e⟩
    · split
      · exact ⟨_, _, _, rfl⟩
      · exact accepted _ _ _ _

/-! ## Pair expiry and silence (R69, R47) -/

theorem expirePair_orig (limit : Nat) (p : OpenPair) (c : Closing) : ∃ l cnt,
    (c.expirePair limit p).orig =
      { c.orig with win := { c.orig.win with pairs := c.orig.win.pairs.filter fun q => decide (q.seq ≠ p.seq) },
                    lane := l, cnt := cnt } ∧ c.orig.lane.Reckoned l := by
  obtain ⟨l, cnt, e, hl⟩ := closeMissing_orig limit p c
  exact ⟨l, cnt, by simp only [Closing.expirePair, Closing.withPairs, e], hl⟩

theorem fallSilent_orig (limit : Nat) (c : Closing) : ∃ l cnt,
    (c.fallSilent limit).orig =
      { c.orig with win := { c.orig.win with seeded := false, delivered := 0, pairs := [], staleRun := 0 },
                    lane := { l with state := .silent }, cnt := cnt, silence := none } ∧ c.orig.lane.Reckoned l := by
  obtain ⟨l, cnt, e, hl⟩ := closeAll_orig limit c.orig.win.pairs c
  exact ⟨l, cnt, by simp only [Closing.fallSilent, e], hl⟩

theorem expirePair_judgeable (limit : Nat) (p : OpenPair) {c : Closing} (h : c.orig.judgeable) :
    (c.expirePair limit p).orig.judgeable := by
  obtain ⟨l, cnt, e, -, -, h3, h4, h5⟩ := expirePair_orig limit p c
  obtain ⟨hw, ha, hb, hs⟩ := h
  obtain ⟨hst, hfit, h0, hun⟩ := (Window.sound_iff _).1 hw
  rw [e]
  refine ⟨(Window.sound_iff _).2 ⟨hst, hfit.sublist List.filter_sublist, h0, fun hf => ?_⟩, h4 ha, h5 hb,
    hs.trans h3.symm⟩
  obtain ⟨hd, hp, hr⟩ := hun hf
  exact ⟨hd, by simp [hp], hr⟩

theorem fallSilent_judgeable (limit : Nat) {c : Closing} (h : c.orig.judgeable) :
    (c.fallSilent limit).orig.judgeable := by
  obtain ⟨l, cnt, e, -, -, h3, h4, h5⟩ := fallSilent_orig limit c
  obtain ⟨-, ha, hb, -⟩ := h
  rw [e]
  exact ⟨(Window.sound_iff _).2 ⟨Nat.zero_le _, PairsFit.nil _ _, nofun, fun _ => ⟨rfl, rfl, rfl⟩⟩, h4 ha, h5 hb,
    Iff.intro (fun _ => rfl) fun _ => rfl⟩

end Sys2Proof.Machine
end

section
/-! SUPPORT. The origin table with its silent order as one register (R33, R35, R43, R155): it stays sound when a record
is put in a place and when one is removed, and as a set stores and loads it; the delivery table (R132). -/

namespace Sys2Proof.Machine

/-! ## Places of a table -/

section
variable {α : Type}

@[simp] theorem tabPut_tabPut : ∀ (t : List (Nat × α)) (i : Nat) (x y : α), tabPut (tabPut t i x) i y = tabPut t i y
  | [], i, x, y => by simp [tabPut]
  | (k, v) :: t, i, x, y => by
    by_cases h1 : i < k
    · simp [tabPut, h1]
    · by_cases h2 : i = k
      · simp [tabPut, h2]
      · simp [tabPut, h1, h2, tabPut_tabPut t i x y]

theorem mem_tabPut_same (t : List (Nat × α)) (i : Nat) (x : α) : (i, x) ∈ tabPut t i x :=
  mem_of_tabGet (tabGet_tabPut_same t i x)

/-- Putting back what a place holds changes nothing of a table in canonical form. -/
theorem tabPut_same : ∀ {t : List (Nat × α)} {n i : Nat} {x : α}, risingFrom n (tabKeys t) = true →
    tabGet t i = some x → tabPut t i x = t
  | [], _, _, _, _, h => by simp [tabGet] at h
  | (k, v) :: t, n, i, x, hr, h => by
    simp only [tabKeys_cons, risingFrom, Bool.and_eq_true, decide_eq_true_eq] at hr
    simp only [tabGet] at h
    unfold tabPut
    split at h
    · next hk => simp_all
    · next hk =>
      have := risingFrom_le hr.2 i (List.mem_map_of_mem (f := Prod.fst) (mem_of_tabGet h))
      rw [if_neg (by omega), if_neg (by omega), tabPut_same hr.2 h]

/-- A record put in a place that is taken leaves the number of records. -/
theorem length_tabPut_taken : ∀ {t : List (Nat × α)} {n i : Nat} {x : α} (y : α), risingFrom n (tabKeys t) = true →
    tabGet t i = some x → (tabPut t i y).length = t.length
  | [], _, _, _, _, _, h => by simp [tabGet] at h
  | (k, v) :: t, n, i, x, y, hr, h => by
    simp only [tabKeys_cons, risingFrom, Bool.and_eq_true, decide_eq_true_eq] at hr
    simp only [tabGet] at h
    unfold tabPut
    split at h
    · next hk => simp [hk]
    · next hk =>
      have := risingFrom_le hr.2 i (List.mem_map_of_mem (f := Prod.fst) (mem_of_tabGet h))
      rw [if_neg (by omega), if_neg (by omega), List.length_cons, length_tabPut_taken y hr.2 h, List.length_cons]

/-- A place freed and taken again is a place overwritten. -/
theorem tabPut_tabErase : ∀ {t : List (Nat × α)} {n i : Nat} (x : α), risingFrom n (tabKeys t) = true →
    tabPut (tabErase t i) i x = tabPut t i x
  | [], _, _, _, _ => rfl
  | (k, v) :: t, n, i, x, hr => by
    simp only [tabKeys_cons, risingFrom, Bool.and_eq_true, decide_eq_true_eq] at hr
    unfold tabErase
    by_cases hk : k = i
    · subst hk
      rw [if_pos rfl, tabPut, if_neg (Nat.lt_irrefl k), if_pos rfl]
      cases t with
      | nil => rfl
      | cons e t =>
        have := risingFrom_le hr.2 e.1 (by simp)
        rw [tabPut, if_pos (by omega)]
    · rw [if_neg hk, tabPut, tabPut, tabPut_tabErase x hr.2]
      by_cases hlt : i < k
      · rw [if_pos hlt, if_pos hlt, tabErase_of_lt hr.2 (by omega)]
      · rw [if_neg hlt, if_neg hlt, if_neg (Ne.symm hk), if_neg (Ne.symm hk)]
where
  tabErase_of_lt : ∀ {t : List (Nat × α)} {n i : Nat}, risingFrom n (tabKeys t) = true → i < n → tabErase t i = t
  | [], _, _, _, _ => rfl
  | (k, v) :: t, n, i, hr, h => by
    simp only [tabKeys_cons, risingFrom, Bool.and_eq_true, decide_eq_true_eq] at hr
    rw [tabErase, if_neg (by omega), tabErase_of_lt hr.2 (by omega)]

variable {t : List (Nat × α)}

theorem tabWf.rising {bound : Nat} (h : tabWf bound t = true) : risingFrom 0 (tabKeys t) = true := (tabWf_iff.1 h).1

theorem tabWf.lt {bound i : Nat} {x : α} (h : tabWf bound t = true) (hi : tabGet t i = some x) : i < bound :=
  (tabWf_iff.1 h).2 i (List.mem_map_of_mem (f := Prod.fst) (mem_of_tabGet hi))

theorem tabWf.get_iff {bound i : Nat} {x : α} (h : tabWf bound t = true) : tabGet t i = some x ↔ (i, x) ∈ t :=
  ⟨mem_of_tabGet, tabGet_of_mem (tabWf.rising h)⟩

/-- In a table in canonical form, distinct addresses mean that an address names one place. -/
theorem addrsUnique_iff {bound : Nat} {addr : α → Addr} (h : tabWf bound t = true) : addrsUnique addr t ↔
    ∀ i j x y, tabGet t i = some x → tabGet t j = some y → addr x = addr y → i = j := by
  have hkeys : t.Nodup := List.Nodup.of_map _ (risingFrom_nodup (tabWf.rising h))
  rw [addrsUnique, List.nodup_map_iff_inj_on hkeys]
  constructor
  · exact fun hinj i j x y hi hj e => congrArg Prod.fst (hinj _ (mem_of_tabGet hi) _ (mem_of_tabGet hj) e)
  · intro huniq ⟨i, x⟩ hi ⟨j, y⟩ hj e
    have hx := (tabWf.get_iff h).2 hi
    have hy := (tabWf.get_iff h).2 hj
    obtain rfl := huniq i j x y hx hy e
    rw [hx] at hy
    cases hy
    rfl

end

theorem findOrigin_some {s : State} {a : Addr} {i : Nat} {r : Origin} (h : findOrigin s a = some (i, r)) :
    (i, r) ∈ s.origins ∧ r.addr = a :=
  ⟨(tabFind_some h).1, of_decide_eq_true (tabFind_some h).2⟩

theorem findOrigin_none {s : State} {a : Addr} (h : findOrigin s a = none) : ∀ e ∈ s.origins, e.2.addr ≠ a :=
  fun e he => of_decide_eq_false (tabFind_none h e he)

theorem learned_iff (r : Origin) : r.learned = true ↔ r.owners = ⟨false, false⟩ := by
  unfold Origin.learned
  generalize r.owners = o
  obtain ⟨one, two⟩ := o
  simp

theorem learned_eq_false_iff (r : Origin) : r.learned = false ↔ r.owners.one = true ∨ r.owners.two = true := by
  cases h1 : r.owners.one <;> cases h2 : r.owners.two <;> simp [Origin.learned, h1, h2]

/-! ## The register -/

/-- What the table and the silent order promise of each other and of their records' addresses and links. -/
structure RegisterSound (t : List (Nat × Origin)) (q : List Nat) : Prop where
  canonical : tabWf 256 t = true
  addrs : ∀ i j x y, tabGet t i = some x → tabGet t j = some y → x.addr = y.addr → i = j
  nodup : q.Nodup
  order : ∀ i, i ∈ q ↔ ∃ r, tabGet t i = some r ∧ r.learned = true ∧ r.lane.state = .silent
  leads : ∀ i r, tabGet t i = some r → ∀ j, r.cfg.ref = some j →
    j ≠ i ∧ ∃ lead, tabGet t j = some lead ∧ lead.learned = false ∧ lead.cfg.ref = none

/-- No record names the record at a place as its lead. -/
def NotLead (t : List (Nat × Origin)) (i : Nat) : Prop := ∀ j x, tabGet t j = some x → x.cfg.ref ≠ some i

theorem notLead_of_isLead {t : List (Nat × Origin)} {i : Nat} (h : isLead t i = false) : NotLead t i := by
  intro j x hx e
  have := (List.any_eq_false.1 h) _ (mem_of_tabGet hx)
  simp [e] at this

namespace RegisterSound
variable {t : List (Nat × Origin)} {q q' : List Nat} {i : Nat} {r r' : Origin}

/-- A record that could not be a lead is none. -/
theorem notLead (h : RegisterSound t q) (hi : tabGet t i = some r) (hr : r.learned = true ∨ r.cfg.ref ≠ none) :
    NotLead t i := by
  intro j x hx e
  obtain ⟨-, lead, hl, hc, hn⟩ := h.leads j x hx i e
  rw [hi] at hl
  cases hl
  rcases hr with hr | hr
  · simp [hr] at hc
  · exact hr hn

theorem notLead_free (h : RegisterSound t q) (hi : tabGet t i = none) : NotLead t i := by
  intro j x hx e
  obtain ⟨-, lead, hl, -⟩ := h.leads j x hx i e
  simp [hi] at hl

theorem notMem_free (h : RegisterSound t q) (hi : tabGet t i = none) : i ∉ q := fun hq => by
  obtain ⟨x, hx, -⟩ := (h.order i).1 hq
  simp [hi] at hx

/-- A record put in a place: its address is no other's, the order follows its silence, its own link fits, and where
others name it as their lead it is configured without a link. -/
theorem put (h : RegisterSound t q) (hi : i < 256) (haddr : ∀ j x, tabGet t j = some x → x.addr = r.addr → j = i)
    (hq : q'.Nodup)
    (hmem : ∀ j, j ∈ q' ↔ if j = i then r.learned = true ∧ r.lane.state = .silent else j ∈ q)
    (href : ∀ j, r.cfg.ref = some j →
      j ≠ i ∧ ∃ lead, tabGet t j = some lead ∧ lead.learned = false ∧ lead.cfg.ref = none)
    (hled : NotLead t i ∨ r.learned = false ∧ r.cfg.ref = none) : RegisterSound (tabPut t i r) q' where
  canonical := tabWf_tabPut r h.canonical hi
  addrs := by
    intro j k x y hx hy e
    rw [tabGet_tabPut] at hx hy
    split at hx
    · next hj =>
      cases hx
      split at hy
      · next hk => rw [← hj, hk]
      · rw [haddr k y hy e.symm, hj]
    · split at hy
      · next hk =>
        cases hy
        rw [haddr j x hx e, hk]
      · exact h.addrs j k x y hx hy e
  nodup := hq
  order := by
    intro j
    rw [hmem j, tabGet_tabPut]
    by_cases hj : j = i
    · rw [if_pos hj, if_pos hj.symm]
      simp
    · rw [if_neg hj, if_neg (Ne.symm hj)]
      exact h.order j
  leads := by
    intro k x hx j hj
    rw [tabGet_tabPut] at hx
    split at hx
    · next hk =>
      cases hx
      obtain ⟨hne, lead, hl, hc⟩ := href j hj
      exact ⟨hk ▸ hne, lead, by rw [tabGet_tabPut_other _ _ hne.symm, hl], hc⟩
    · obtain ⟨hne, lead, hl, hc⟩ := h.leads k x hx j hj
      by_cases hji : i = j
      · subst hji
        rcases hled with hled | hled
        · exact absurd hj (hled k x hx)
        · exact ⟨hne, r, tabGet_tabPut_same .., hled⟩
      · exact ⟨hne, lead, by rw [tabGet_tabPut_other _ _ hji, hl], hc⟩

/-- A record changed in its place, its address, kind and link kept. -/
theorem replace (h : RegisterSound t q) (hi : tabGet t i = some r) (ha : r'.addr = r.addr)
    (hk : r'.learned = r.learned) (hr : r'.cfg.ref = r.cfg.ref) (hq : q'.Nodup)
    (hmem : ∀ j, j ∈ q' ↔ if j = i then r'.learned = true ∧ r'.lane.state = .silent else j ∈ q) :
    RegisterSound (tabPut t i r') q' := by
  refine h.put (tabWf.lt h.canonical hi) (fun j x hx e => h.addrs j i x r hx hi (e.trans ha)) hq hmem
    (fun j hj => h.leads i r hi j (hr ▸ hj)) ?_
  by_cases hlead : r.learned = true ∨ r.cfg.ref ≠ none
  · exact .inl (h.notLead hi hlead)
  · rw [not_or, Bool.not_eq_true, not_not] at hlead
    exact .inr ⟨hk.trans hlead.1, hr.trans hlead.2⟩

/-- A record changed in its place with its silence kept too. -/
theorem keep (h : RegisterSound t q) (hi : tabGet t i = some r) (ha : r'.addr = r.addr) (hk : r'.learned = r.learned)
    (hr : r'.cfg.ref = r.cfg.ref) (hs : r'.lane.state = .silent ↔ r.lane.state = .silent) :
    RegisterSound (tabPut t i r') q := by
  refine h.replace hi ha hk hr h.nodup fun j => ?_
  split
  · next hj => rw [hj, h.order i, hi, hk, hs]; simp
  · exact Iff.rfl

theorem mem_erase_iff (h : RegisterSound t q) (j : Nat) : j ∈ q.erase i ↔ if j = i then False else j ∈ q := by
  rw [h.nodup.mem_erase_iff]
  split <;> simp_all

/-- The place leaves the order, and joins its tail. -/
theorem nodup_requeue (h : RegisterSound t q) : (q.erase i ++ [i]).Nodup :=
  List.nodup_append.2 ⟨h.nodup.erase i, List.nodup_singleton i, fun a ha b hb => by
    rw [List.mem_singleton.1 hb]; exact (h.nodup.mem_erase_iff.1 ha).1⟩

theorem mem_requeue_iff (h : RegisterSound t q) (j : Nat) : j ∈ q.erase i ++ [i] ↔ if j = i then True else j ∈ q := by
  rw [List.mem_append, List.mem_singleton, h.mem_erase_iff]
  split <;> simp_all

/-- A record that no other names as its lead is removed. -/
theorem erase (h : RegisterSound t q) (hn : NotLead t i) : RegisterSound (tabErase t i) (q.erase i) := by
  have hself : tabGet (tabErase t i) i = none := tabGet_tabErase_same i (tabWf.rising h.canonical)
  have hget : ∀ j x, tabGet (tabErase t i) j = some x ↔ j ≠ i ∧ tabGet t j = some x := fun j x => by
    by_cases hj : j = i
    · simp [hj, hself]
    · rw [tabGet_tabErase_other t (Ne.symm hj)]; simp [hj]
  refine ⟨tabWf_tabErase i h.canonical, fun j k x y hx hy => ?_, h.nodup.erase i, fun j => ?_, fun k x hx j hj => ?_⟩
  · exact h.addrs j k x y ((hget j x).1 hx).2 ((hget k y).1 hy).2
  · rw [h.nodup.mem_erase_iff, h.order j]
    simp only [hget, and_assoc, exists_and_left]
  · obtain ⟨hki, hx⟩ := (hget k x).1 hx
    obtain ⟨hne, lead, hl, hc⟩ := h.leads k x hx j hj
    exact ⟨hne, lead, (hget j lead).2 ⟨fun e => hn k x hx (e ▸ hj), hl⟩, hc⟩

end RegisterSound

/-! ## Stored sets (R171) -/

/-- What a stored set promises of its tables. -/
def SetContent.Sound (c : SetContent) : Prop := c.canonical ∧ c.addrsUnique ∧ c.owned ∧ c.leadsSound

/-- The delivery table in canonical form, an address naming one slot. -/
def GroupsSound (t : List (Nat × Group)) : Prop := groupsSound t ∧ addrsUnique Group.addr t

theorem factorySet_sound : factorySet.Sound :=
  ⟨⟨rfl, rfl, by simp [factorySet]⟩, ⟨List.nodup_nil, List.nodup_nil⟩, by simp [factorySet, SetContent.owned],
    fun i r h => by simp [factorySet, tabGet] at h⟩

theorem stored_eq_some {r : Origin} {x : StoredOrigin} (h : r.stored = some x) :
    r.learned = false ∧ x = ⟨r.addr, r.owners, r.cfg⟩ := by
  unfold Origin.stored at h
  split at h
  · cases h
  · next hl => exact ⟨by simpa using hl, by simpa using h.symm⟩

theorem owned_stored {r : Origin} {x : StoredOrigin} (h : r.stored = some x) :
    x.owners.one = true ∨ x.owners.two = true := by
  obtain ⟨hl, rfl⟩ := stored_eq_some h
  exact (learned_eq_false_iff r).1 hl

/-- What a snapshot holds is some record's stored part. -/
theorem mem_tabFilterMap {α β : Type} {f : α → Option β} : ∀ {t : List (Nat × α)} {e : Nat × β},
    e ∈ tabFilterMap f t → ∃ x, (e.1, x) ∈ t ∧ f x = some e.2
  | [], e, h => by simp [tabFilterMap] at h
  | (k, v) :: t, e, h => by
    have later (h : e ∈ tabFilterMap f t) : ∃ x, (e.1, x) ∈ (k, v) :: t ∧ f x = some e.2 := by
      obtain ⟨x, hx, hf⟩ := mem_tabFilterMap h
      exact ⟨x, List.mem_cons_of_mem _ hx, hf⟩
    unfold tabFilterMap at h
    split at h
    · next w hw =>
      rcases List.mem_cons.1 h with rfl | h
      · exact ⟨v, List.mem_cons_self, hw⟩
      · exact later h
    · exact later h

theorem snapshotOf_sound {s : State} (h : RegisterSound s.origins s.silentOrder) (hg : GroupsSound s.groups) :
    (snapshotOf s).Sound := by
  have hget (i : Nat) : tabGet (snapshotOf s).origins i = (tabGet s.origins i).bind Origin.stored :=
    tabGet_tabFilterMap Origin.stored i (tabWf.rising h.canonical)
  have hcanon : tabWf 256 (snapshotOf s).origins = true := tabWf_tabFilterMap Origin.stored h.canonical
  have hfrom {i : Nat} {x : StoredOrigin} (hx : tabGet (snapshotOf s).origins i = some x) :
      ∃ r, tabGet s.origins i = some r ∧ r.learned = false ∧ x = ⟨r.addr, r.owners, r.cfg⟩ := by
    rw [hget] at hx
    obtain ⟨r, hr, hs⟩ := Option.bind_eq_some_iff.1 hx
    exact ⟨r, hr, stored_eq_some hs⟩
  refine ⟨⟨hcanon, hg.1⟩, ⟨(addrsUnique_iff hcanon).2 fun i j x y hx hy e => ?_, hg.2⟩, fun e he => ?_,
    fun i x hx j hj => ?_⟩
  · obtain ⟨r, hr, -, rfl⟩ := hfrom hx
    obtain ⟨r', hr', -, rfl⟩ := hfrom hy
    exact h.addrs i j r r' hr hr' e
  · obtain ⟨r, -, hr⟩ := mem_tabFilterMap he
    exact owned_stored hr
  · obtain ⟨r, hr, -, rfl⟩ := hfrom hx
    obtain ⟨hne, lead, hl, hc, hn⟩ := h.leads i r hr j hj
    exact ⟨hne, ⟨lead.addr, lead.owners, lead.cfg⟩, by simp [hget, hl, Origin.stored, hc], hn⟩

theorem load_learned (x : StoredOrigin) : x.load.learned = false ↔ x.owners.one = true ∨ x.owners.two = true :=
  learned_eq_false_iff x.load

/-- A loaded table holds configured records alone, so the silent order starts empty. -/
theorem RegisterSound.load {c : SetContent} (h : c.Sound) : RegisterSound (tabMap StoredOrigin.load c.origins) [] := by
  obtain ⟨⟨hcanon, -⟩, ⟨haddrs, -⟩, howned, hleads⟩ := h
  have haddrs := (addrsUnique_iff hcanon).1 haddrs
  have hfrom {i : Nat} {r : Origin} (hr : tabGet (tabMap StoredOrigin.load c.origins) i = some r) :
      ∃ x, tabGet c.origins i = some x ∧ r = x.load ∧ x.load.learned = false := by
    rw [tabGet_tabMap] at hr
    obtain ⟨x, hx, rfl⟩ := Option.map_eq_some_iff.1 hr
    exact ⟨x, hx, rfl, (load_learned x).2 (howned _ (mem_of_tabGet hx))⟩
  refine ⟨tabWf_tabMap _ hcanon, fun i j r r' hr hr' e => ?_, List.nodup_nil, fun i => ?_, fun i r hr j hj => ?_⟩
  · obtain ⟨x, hx, rfl, -⟩ := hfrom hr
    obtain ⟨y, hy, rfl, -⟩ := hfrom hr'
    exact haddrs i j x y hx hy e
  · refine iff_of_false List.not_mem_nil fun ⟨r, hr, hl, _⟩ => ?_
    obtain ⟨x, -, rfl, hx⟩ := hfrom hr
    simp [hx] at hl
  · obtain ⟨x, hx, rfl, -⟩ := hfrom hr
    obtain ⟨hne, lead, hl, hn⟩ := hleads i x hx j hj
    have hget : tabGet (tabMap StoredOrigin.load c.origins) j = some lead.load := by rw [tabGet_tabMap, hl]; rfl
    obtain ⟨y, hy, -, hfalse⟩ := hfrom hget
    rw [hl] at hy
    cases hy
    exact ⟨hne, lead.load, hget, hfalse, hn⟩

/-! ## The delivery table (R132, R156) -/

theorem findGroup_some {t : List (Nat × Group)} {a : Addr} {i : Nat} {g : Group} (h : findGroup t a = some (i, g)) :
    (i, g) ∈ t ∧ g.addr = a :=
  ⟨(tabFind_some h).1, of_decide_eq_true (tabFind_some h).2⟩

theorem findGroup_none {t : List (Nat × Group)} {a : Addr} (h : findGroup t a = none) : ∀ e ∈ t, e.2.addr ≠ a :=
  fun e he => of_decide_eq_false (tabFind_none h e he)

namespace GroupsSound
variable {t : List (Nat × Group)} {i : Nat} {g : Group}

/-- An entry with a non-empty delivery set put in a slot, its address no other's. -/
theorem put (h : GroupsSound t) (hi : i < 64) (hm : g.members.one = true ∨ g.members.two = true)
    (ha : ∀ j x, tabGet t j = some x → x.addr = g.addr → j = i) : GroupsSound (tabPut t i g) := by
  obtain ⟨⟨hc, hne⟩, hu⟩ := h
  have hput : tabWf Config.maxGroups (tabPut t i g) = true := tabWf_tabPut g hc hi
  refine ⟨⟨hput, fun e he => ?_⟩, (addrsUnique_iff hput).2 fun j k x y hx hy e => ?_⟩
  · rcases mem_tabPut he with rfl | he
    · exact hm
    · exact hne e he
  · rw [tabGet_tabPut] at hx hy
    split at hx
    · next hj =>
      cases hx
      split at hy
      · next hk => rw [← hj, hk]
      · rw [ha k y hy e.symm, hj]
    · split at hy
      · next hk =>
        cases hy
        rw [ha j x hx e, hk]
      · exact (addrsUnique_iff hc).1 hu j k x y hx hy e

/-- The entry of a slot with other members. -/
theorem replace (h : GroupsSound t) (hi : (i, g) ∈ t) {members : PerMaster Bool}
    (hm : members.one = true ∨ members.two = true) : GroupsSound (tabPut t i { g with members := members }) := by
  have hget := (tabWf.get_iff h.1.1).2 hi
  exact h.put (tabWf.lt h.1.1 hget) hm fun j x hx e => (addrsUnique_iff h.1.1).1 h.2 j i x g hx hget e

theorem erase (h : GroupsSound t) (i : Nat) : GroupsSound (tabErase t i) := by
  obtain ⟨⟨hc, hne⟩, hu⟩ := h
  have herase : tabWf Config.maxGroups (tabErase t i) = true := tabWf_tabErase i hc
  refine ⟨⟨herase, fun e he => hne e (mem_tabErase he)⟩, (addrsUnique_iff herase).2 fun j k x y hx hy e => ?_⟩
  have hin {j : Nat} {x : Group} (hx : tabGet (tabErase t i) j = some x) : tabGet t j = some x :=
    (tabWf.get_iff hc).2 (mem_tabErase (mem_of_tabGet hx))
  exact (addrsUnique_iff hc).1 hu j k x y (hin hx) (hin hy) e

end GroupsSound

theorem PerMaster.set_true_some (x : PerMaster Bool) (m : Master) :
    (x.set m true).one = true ∨ (x.set m true).two = true := by
  cases m
  · exact .inl rfl
  · exact .inr rfl

theorem joinGroup_sound {m : Master} {a : Addr} {cls : GroupClass} {s t : State} (e : joinGroup m a cls s = .ok t)
    (h : GroupsSound s.groups) : GroupsSound t.groups := by
  unfold joinGroup at e
  split at e
  · next i g hf =>
    split at e
    · cases e
    · cases e
      exact h.replace (findGroup_some hf).1 (PerMaster.set_true_some _ m)
  · next hf =>
    split at e
    · cases e
    · next hlt =>
      cases e
      refine h.put (tabFree_lt (tabWf.rising h.1.1) (not_le.1 hlt)) (PerMaster.set_true_some _ m) fun j x hx e => ?_
      exact absurd e (findGroup_none hf _ (mem_of_tabGet hx))

theorem leaveGroup_sound (m : Master) (a : Addr) {s : State} (h : GroupsSound s.groups) :
    GroupsSound (leaveGroup m a s).groups := by
  unfold leaveGroup
  split
  · exact h
  · next i g hf =>
    dsimp only
    split
    · next hleft => exact h.replace (findGroup_some hf).1 hleft
    · exact h.erase i

end Sys2Proof.Machine
end

section
/-! SUPPORT. What an event can do to the tables, the settings and the links, as a sequence of single moves: every
command but the resets, the completion of a save and those of a control link makes a row of them. An invariant of the
records or of the tables is then proved once for each move. -/

namespace Sys2Proof.Machine

/-! ## Moves -/

/-- What the tables' promises are about: the state without its ports, timers, staging areas and clock. -/
structure Census where
  globals : Globals
  origins : List (Nat × Origin)
  order   : List Nat
  groups  : List (Nat × Group)
  links   : PerMaster ControlLink
  set1    : UserSet
  set2    : UserSet
  save    : Option SaveRecord

def State.census (s : State) : Census :=
  ⟨s.globals, s.origins, s.silentOrder, s.groups, s.links, s.set1, s.set2, s.save⟩

/-- The record that a copy judged in a state leaves (R57, R80, R46). -/
def judgedOrigin (s : State) (k : Copy) (r : Origin) : Origin :=
  (afterJudgment s k (judge (judgeSettings s.globals) k ⟨s.lines, r⟩)).1

/-- A resolved reference link of a put to an address names another, configured record without a link (R155). -/
def RefFits (t : List (Nat × Origin)) (a : Addr) (ref : Option Nat) : Prop :=
  ∀ j, ref = some j → ∃ lead, (j, lead) ∈ t ∧ lead.addr ≠ a ∧ lead.learned = false ∧ lead.cfg.ref = none

/-- What an event can make of the record at a place, with the silent order after it. -/
inductive Turn (c : Census) (i : Nat) (r : Origin) : Origin → List Nat → Prop
  | notified (n : Notified) : Turn c i r { r with notif := n } c.order
  | relaned (limit : Nat) : Turn c i r (r.relane limit) c.order
  | judged (s : State) (k : Copy) (hs : s.globals = c.globals) :
    Turn c i r (judgedOrigin s k r)
      (if (judge (judgeSettings s.globals) k ⟨s.lines, r⟩).verdict = .seed then c.order.erase i else c.order)
  | expired (lines : PerLane LinePort) (p : OpenPair) :
    Turn c i r (Closing.expirePair c.globals.lossLimit p ⟨lines, r⟩).orig c.order
  | silenced (lines : PerLane LinePort) :
    Turn c i r (Closing.fallSilent c.globals.lossLimit ⟨lines, r⟩).orig
      (if r.learned then c.order.erase i ++ [i] else c.order)
  | rebased : Turn c i r { r with pipe := r.pipe.rebase } c.order
  | reminded (hl : r.learned = true) : Turn c i r { r with forget := r.forgetTime } c.order
  | shared (owners : PerMaster Bool) (hl : r.learned = false) (ho : owners.one = true ∨ owners.two = true) :
    Turn c i r { r with owners := owners } c.order
  | reconfigured (f : PutFields) (ref : Option Nat) (hl : r.learned = false)
    (hrise : thresholdsRise f.clamped.t1 f.clamped.t2 f.clamped.t3 = true) (href : RefFits c.origins r.addr ref)
    (hlead : ref = none ∨ isLead c.origins i = false) :
    Turn c i r (r.reconfigure (f.clamped.settings ref r.cfg.manual) f.reseed) c.order
  | promoted (m : Master) (f : PutFields) (ref : Option Nat) (hl : r.learned = true)
    (hrise : thresholdsRise f.clamped.t1 f.clamped.t2 f.clamped.t3 = true) (href : RefFits c.origins r.addr ref) :
    Turn c i r (r.promote m (f.clamped.settings ref 0) f.reseed) (c.order.erase i)

/-- The records an event can create, before any copy is judged against them. -/
inductive Newcomer (g : Globals) : Origin → Prop
  | learned (a : Addr) (note : LearningNote) : Newcomer g (Origin.learn g.profile a note)
  | configured (m : Master) (a : Addr) (f : PutFields) (ref : Option Nat)
    (hrise : thresholdsRise f.clamped.t1 f.clamped.t2 f.clamped.t3 = true) :
    Newcomer g (Origin.fresh a (soleOwner m) (f.clamped.settings ref 0))

/-- One move of the tables, the settings or the links. -/
inductive Move (c : Census) : Census → Prop
  | raised (m : Master) (k : EventKind) : Move c { c with links := c.links.set m ((c.links.get m).raise k) }
  | marked (i : Nat) (hi : i ∈ tabKeys c.origins) :
    Move c { c with
      links := ⟨(c.links.one.addChange i).raise .originChange, (c.links.two.addChange i).raise .originChange⟩ }
  | turned {i : Nat} {r r' : Origin} {q : List Nat} (hr : (i, r) ∈ c.origins) (ht : Turn c i r r' q) :
    Move c { c with origins := tabPut c.origins i r', order := q }
  | admitted (s : State) (k : Copy) (a : Addr) (hs : s.globals = c.globals) (hlt : c.origins.length < 256)
    (ha : ∀ e ∈ c.origins, e.2.addr ≠ a) :
    Move c { c with
      origins := tabPut c.origins (tabFree c.origins)
        (judgedOrigin s k (Origin.learn c.globals.profile a (.frameOn k.port))),
      order := c.order.erase (tabFree c.origins) }
  | evicted (s : State) (k : Copy) (a : Addr) (head : Nat) (rest : List Nat) (hs : s.globals = c.globals)
    (hq : c.order = head :: rest) (ha : ∀ e ∈ c.origins, e.2.addr ≠ a) :
    Move c { c with
      origins := tabPut (tabErase c.origins head) head
        (judgedOrigin s k (Origin.learn c.globals.profile a (.frameOn k.port))),
      order := (c.order.erase head).erase head }
  | announced (n : Nat) (a : Addr) (hlt : c.origins.length < 256) (ha : ∀ e ∈ c.origins, e.2.addr ≠ a) :
    Move c { c with
      origins := tabPut c.origins (tabFree c.origins) (Origin.learn c.globals.profile a (.rollCallOf n)),
      order := c.order ++ [tabFree c.origins] }
  | configured (m : Master) (a : Addr) (f : PutFields) (ref : Option Nat) (hlt : c.origins.length < 256)
    (ha : ∀ e ∈ c.origins, e.2.addr ≠ a)
    (hrise : thresholdsRise f.clamped.t1 f.clamped.t2 f.clamped.t3 = true) (href : RefFits c.origins a ref) :
    Move c { c with
      origins := tabPut c.origins (tabFree c.origins) (Origin.fresh a (soleOwner m) (f.clamped.settings ref 0)) }
  | removed {i : Nat} {r : Origin} (hr : (i, r) ∈ c.origins) (h : r.forget ≠ none ∨ isLead c.origins i = false) :
    Move c { c with origins := tabErase c.origins i, order := c.order.erase i }
  | regulated (g : GlobalSetting) (v1 v2 v3 : Nat)
    (h : ¬ (g = .profileThresholds ∧
      thresholdsRise (globalClamp g v1) (globalClamp g v2) (globalClamp g v3) = false)) :
    Move c { c with
      globals := c.globals.put (globalClamp g v1) (globalClamp g v2) (globalClamp g v3) g,
      origins := if g = .lossLimit then tabMap (Origin.relane (globalClamp g v3)) c.origins else c.origins }
  | grouped (t : List (Nat × Group)) (h : GroupsSound c.groups → GroupsSound t) : Move c { c with groups := t }

/-- A row of moves leads from one state's tables, settings and links to another's. -/
def Moves (s t : State) : Prop := Relation.ReflTransGen Move s.census t.census

namespace Moves
variable {s t u : State}

theorem refl (s : State) : Moves s s := Relation.ReflTransGen.refl

theorem trans (h : Moves s t) (h' : Moves t u) : Moves s u := Relation.ReflTransGen.trans h h'

theorem after (h' : Moves t u) (h : Moves s t) : Moves s u := h.trans h'

theorem of_census (h : t.census = s.census) : Moves s t := by rw [Moves, h]

theorem one {c : Census} (h : Move s.census c) (e : t.census = c) : Moves s t := .single (e ▸ h)

end Moves

/-! ## Notification -/

section
variable (s : State)

theorem raiseFor_moves (m : Master) (k : EventKind) : Moves s (raiseFor m k s) := .one (.raised m k) rfl

theorem raiseBoth_moves (k : EventKind) : Moves s (raiseBoth k s) :=
  (raiseFor_moves s .m1 k).trans (raiseFor_moves _ .m2 k)

theorem markChange_moves {i : Nat} (hi : i ∈ tabKeys s.origins) : Moves s (markChange i s) := .one (.marked i hi) rfl

theorem mem_tabKeys {α : Type} {t : List (Nat × α)} {i : Nat} {x : α} (h : (i, x) ∈ t) : i ∈ tabKeys t :=
  List.mem_map_of_mem (f := Prod.fst) h

theorem compareAt_moves (cause : Bool) (i : Nat) : Moves s (compareAt cause i s) := by
  unfold compareAt
  split
  · exact .refl s
  · next r hr =>
    split
    · have hput : Moves s (s.setOrigin i { r with notif := caughtUp s r }) :=
        .one (.turned (mem_of_tabGet hr) (.notified _)) rfl
      exact hput.trans (markChange_moves _ (mem_tabKeys (mem_tabPut_same ..)))
    · exact .refl s

theorem compareEach_moves : ∀ (is : List Nat) (s : State), Moves s (compareEach is s)
  | [], s => .refl s
  | i :: is, s => (compareAt_moves s false i).trans (compareEach_moves is _)

theorem compareAll_moves : Moves s (compareAll s) := compareEach_moves _ s

theorem endEvent_moves (cause : Bool) (before : Level) (i : Nat) : Moves s (endEvent cause before i s) := by
  have hown := compareAt_moves s cause i
  unfold endEvent
  dsimp only
  split
  · exact hown
  · split
    · exact hown.trans (compareEach_moves _ _)
    · exact hown

/-! ## Copies and proxies -/

theorem judgeCopy_eq (created : Bool) (i : Nat) (r : Origin) (k : Copy) : (judgeCopy created i r k s).1 =
    endEvent (created || (afterJudgment s k (judge (judgeSettings s.globals) k ⟨s.lines, r⟩)).2) r.pipe.level i
      { s with
        lines := (judge (judgeSettings s.globals) k ⟨s.lines, r⟩).closing.lines,
        silentOrder :=
          if (judge (judgeSettings s.globals) k ⟨s.lines, r⟩).verdict = .seed then s.silentOrder.erase i
          else s.silentOrder,
        origins := tabPut s.origins i (judgedOrigin s k r) } := rfl

theorem judgeCopy_moves (created : Bool) {i : Nat} {r : Origin} (k : Copy) (hr : (i, r) ∈ s.origins) :
    Moves s (judgeCopy created i r k s).1 := by
  rw [judgeCopy_eq]
  exact .after (endEvent_moves _ _ _ i) (.one (.turned hr (.judged s k rfl)) rfl)

/-- The creating copy of a learned record seeds its window (R58). -/
theorem judge_learn_verdict (g : JudgeSettings) (k : Copy) (lines : PerLane LinePort) (p : Profile) (a : Addr)
    (note : LearningNote) : (judge g k ⟨lines, Origin.learn p a note⟩).verdict = .seed :=
  (judge_verdict_eq_seed ..).2 rfl

/-- A record that the same event put in place, and a copy that seeds it: one move makes both, then the comparison. -/
theorem judgeCreated_moves {s p : State} (i : Nat) {r : Origin} (k : Copy)
    (hv : (judge (judgeSettings p.globals) k ⟨p.lines, r⟩).verdict = .seed)
    (h : Relation.ReflTransGen Move s.census
      { p.census with origins := tabPut p.origins i (judgedOrigin p k r), order := p.silentOrder.erase i }) :
    Moves s (judgeCreated i r k p).1 := by
  rw [judgeCreated, judgeCopy_eq, hv, if_pos rfl]
  exact .after (endEvent_moves _ _ _ i) h

/-- TABLE FULL as the creation of one more record raises it (R44). -/
def State.toldFull (s : State) : State :=
  if s.origins.length + 1 = Config.maxOrigins then raiseBoth .tableFull s else s

theorem placeOrigin_eq (r : Origin) : placeOrigin r s = s.toldFull.setOrigin (tabFree s.origins) r := by
  unfold placeOrigin State.toldFull
  dsimp only
  split <;> rfl

theorem toldFull_frame : ∃ k, s.toldFull = { s with links := k } := by
  unfold State.toldFull
  split <;> exact ⟨_, rfl⟩

theorem toldFull_moves : Moves s s.toldFull := by
  unfold State.toldFull
  split
  · exact raiseBoth_moves s .tableFull
  · exact .refl s

theorem filterCopy_moves (a : Addr) (k : Copy) : Moves s (filterCopy a k s).1 := by
  unfold filterCopy
  split
  · next i r hf => exact judgeCopy_moves s false k (findOrigin_some hf).1
  · next hf =>
    have hnew := findOrigin_none hf
    dsimp only
    split
    · exact .refl s
    · split
      · next hfull =>
        have hlt : s.origins.length < 256 := not_le.1 (of_decide_eq_false hfull)
        have hm := toldFull_moves s
        obtain ⟨l, e⟩ := toldFull_frame s
        rw [placeOrigin_eq]
        rw [e] at hm ⊢
        refine judgeCreated_moves _ k (judge_learn_verdict ..) (hm.tail ?_)
        simp only [setOrigin_origins, tabPut_tabPut]
        exact .admitted _ k a rfl hlt hnew
      · split
        · exact .refl s
        · next head rest hq =>
          refine judgeCreated_moves _ k (judge_learn_verdict ..)
            (.tail (.single (.evicted (evictFor head (learnedFrom a k s) s) k a head rest rfl hq hnew)) ?_)
          simp only [evictFor, removeOrigin, setOrigin_origins, tabPut_tabPut]
          exact .marked head (mem_tabKeys (mem_tabPut_same ..))

theorem takeProxy_moves (n : Nat) (l : Lane) (a : Addr) : Moves s (takeProxy n l a s) := by
  unfold takeProxy
  split
  · next i r hf =>
    split
    · next hl => exact .one (.turned (findOrigin_some hf).1 (.reminded hl)) rfl
    · exact .refl s
  · next hf =>
    split
    · exact .refl s
    · split
      · exact .of_census rfl
      · next hroom =>
        have hlt : s.origins.length < 256 := not_le.1 fun h => hroom (.inr (decide_eq_true h))
        have hm := toldFull_moves s
        obtain ⟨k, e⟩ := toldFull_frame s
        dsimp only [createSilent]
        rw [placeOrigin_eq]
        rw [e] at hm ⊢
        exact (Relation.ReflTransGen.tail hm (.announced n a hlt (findOrigin_none hf))).tail
          (.marked _ (mem_tabKeys (mem_tabPut_same ..)))

theorem takeProxies_moves (n : Nat) (l : Lane) : ∀ (as : List Addr) (s : State), Moves s (takeProxies n l as s)
  | [], s => .refl s
  | a :: as, s => (takeProxy_moves s n l a).trans (takeProxies_moves n l as _)

/-! ## Frames -/

theorem offerBay_moves (m : Master) (f : Frame) : Moves s (offerBay m f s) := by
  unfold offerBay
  split
  · exact .refl s
  · exact .of_census rfl
  · exact .after (raiseBoth_moves _ .queueDrop) (.of_census rfl)
  · exact .of_census rfl

theorem offerLocal_moves (m : Master) (f : Frame) : Moves s (offerLocal m f s) := by
  unfold offerLocal
  split
  · exact (offerBay_moves s m f).trans (.of_census rfl)
  · exact offerBay_moves s m f

theorem offerWhere_moves (pick : Master → Bool) (f : Frame) : Moves s (offerWhere pick f s) := by
  have offered (m : Master) (t : State) : Moves t (if pick m then offerBay m f t else t) := by
    split
    · exact offerBay_moves t m f
    · exact .refl t
  exact (offered .m1 s).trans (offered .m2 _)

theorem countUnknown_moves (m : Master) : Moves s (countUnknown m s) := by
  obtain ⟨b, e⟩ := countUnknown_frame s m
  exact .of_census (by rw [e]; rfl)

theorem deliver_moves (l : Lane) (a : Addr) (f : Frame) : Moves s (deliver l a f s) := by
  unfold deliver
  split
  · exact offerWhere_moves s _ f
  · split
    · split
      · exact offerWhere_moves s _ f
      · exact ((countUnknown_moves s .m1).trans (countUnknown_moves _ .m2)).trans (offerWhere_moves _ _ f)
    · split
      · exact offerWhere_moves s _ f
      · exact .of_census rfl

theorem reported_moves (cls : TrafficClass) : Moves s (s.reported cls) := by
  unfold State.reported tripReport
  dsimp only
  split
  · split
    · exact .after (raiseBoth_moves _ .alert) (.of_census rfl)
    · exact .of_census rfl
  · exact .refl s

theorem decidePort_moves (l : Lane) : Moves s (decidePort l s) := by
  unfold decidePort
  dsimp only
  split
  · exact .refl s
  · split
    · exact .refl s
    · have hstate (p : LinePort) : Moves s (raiseBoth .lanePort (s.setLine l p)) :=
        .after (raiseBoth_moves _ .lanePort) (.of_census rfl)
      split
      · exact (hstate _).trans (raiseBoth_moves _ .crossed)
      · exact hstate _

theorem countAssurance_moves (l code : Lane) : Moves s (countAssurance l code s) := by
  unfold countAssurance
  dsimp only
  split
  · exact .refl s
  · exact .after (decidePort_moves _ l) (.of_census rfl)

theorem rollCallUnit_moves (i : Option Nat) (l : Lane) (t : Tagged) : Moves s (rollCallUnit i l t s) := by
  unfold rollCallUnit
  split
  · cases i with
    | none => exact countAssurance_moves s l t.code
    | some i => exact (takeProxies_moves i l _ s).trans (countAssurance_moves _ l t.code)
  · exact .of_census rfl

theorem handOn_moves (i : Option Nat) (l : Lane) (t : Tagged) : Moves s (handOn i l t s) := by
  refine (reported_moves s t.cls).trans ?_
  unfold handOn
  dsimp only
  split
  · exact rollCallUnit_moves _ i l t
  · split
    · exact .of_census rfl
    · exact deliver_moves _ l t.dest _

theorem untagged_moves (l : Lane) (data : List Byte) : Moves s (untagged l data s) := by
  unfold untagged
  split
  · exact .of_census rfl
  · exact deliver_moves s l _ _

theorem pairFilter_moves (l : Lane) (t : Tagged) : Moves s (pairFilter l t s) := by
  unfold pairFilter
  split
  · exact .of_census rfl
  · have hm := filterCopy_moves s t.source ⟨l, t.seq, s.tick⟩
    generalize filterCopy t.source ⟨l, t.seq, s.tick⟩ s = filtered at hm
    obtain ⟨s', out⟩ := filtered
    cases out with
    | overflow => exact .after (handOn_moves _ none l t) (hm.trans (.of_census rfl))
    | judged i v =>
      dsimp only
      split
      · exact hm.trans (handOn_moves s' (some i) l t)
      · exact hm

theorem lineFrameEffect_moves (l : Lane) (f : RxFrame) : Moves s (lineFrameEffect l f s) := by
  unfold lineFrameEffect
  split
  · exact .refl s
  · split
    · exact .of_census rfl
    · split
      · exact untagged_moves s l _
      · exact .after (untagged_moves _ l _) (.of_census rfl)
      · exact pairFilter_moves s l _

theorem bayFrameEffect_moves (m : Master) (f : RxFrame) : Moves s (bayFrameEffect m f s) := by
  unfold bayFrameEffect
  split
  · exact .refl s
  · split
    · exact .of_census rfl
    · have copied (t : State) (y : Master) (f : Frame) : Moves t (t.copiedTo y f) := by
        unfold State.copiedTo
        split
        · exact offerLocal_moves t y f
        · exact .refl t
      have sent (c : TrafficClass) (d : List Byte) (t : State) : Moves t (sendToLanes m c d t) := by
        obtain ⟨n, b, e⟩ := sendToLanes_frame m c d t
        exact .of_census (by rw [e]; rfl)
      rw [relayFrame_eq]
      exact .after (sent _ _ _) (.after (copied _ _ _) ((reported_moves s _).trans (.of_census rfl)))

/-! ## Line ports, bay ports and timers -/

theorem enterProbing_moves (l : Lane) : Moves s (enterProbing l s) :=
  .after (compareAll_moves _) (.after (raiseBoth_moves _ .lanePort) (.of_census rfl))

theorem lineUp_moves (l : Lane) : Moves s (lineUp l s) := by
  have hup (f : LinePort → LinePort) : Moves s (raiseBoth .lanePort (s.onLine l f)) :=
    .after (raiseBoth_moves _ .lanePort) (.of_census rfl)
  unfold lineUp
  dsimp only
  split
  · exact (hup _).trans (enterProbing_moves _ l)
  · exact hup _

theorem lineDown_moves (l : Lane) : Moves s (lineDown l s) :=
  .after (raiseBoth_moves _ .lanePort) (.after (raiseBoth_moves _ .linkLost) (.of_census rfl))

theorem lineLossEffect_moves (l : Lane) : Moves s (lineLossEffect l s) := by
  unfold lineLossEffect
  split
  · exact .refl s
  · dsimp only
    split
    · exact .after (lineDown_moves _ l) (.of_census rfl)
    · exact .of_census rfl

theorem linkFailEffect_moves (l : Lane) : Moves s (linkFailEffect l s) := by
  unfold linkFailEffect
  split
  · exact .refl s
  · exact lineDown_moves s l

theorem lineUpEffect_moves (l : Lane) : Moves s (lineUpEffect l s) := by
  unfold lineUpEffect
  split
  · exact lineUp_moves s l
  · exact .refl s

theorem settleEffect_moves (l : Lane) : Moves s (settleEffect l s) := by
  unfold settleEffect
  split
  · exact enterProbing_moves s l
  · exact .refl s

theorem probeLimitEffect_moves (l : Lane) : Moves s (probeLimitEffect l s) := by
  unfold probeLimitEffect
  split
  · exact .after (raiseBoth_moves _ .lanePort) (.of_census rfl)
  · exact .refl s

theorem alertHoldEffect_moves : Moves s (alertHoldEffect s) := by
  unfold alertHoldEffect
  split
  · exact .refl s
  · exact .after (raiseBoth_moves _ .alert) (.of_census rfl)

theorem announce_moves : Moves s (announce s) := by
  obtain ⟨n, q, e⟩ := announce_frame s
  exact .of_census (by rw [e]; rfl)

theorem rollTimerEffect_moves : Moves s (rollTimerEffect s) := by
  unfold rollTimerEffect
  split
  · exact .refl s
  · exact announce_moves s

theorem quietEndEffect_moves : Moves s (quietEndEffect s) := by
  unfold quietEndEffect
  split
  · exact .refl s
  · exact .after (announce_moves _) (.of_census rfl)

theorem bayTransmitEffect_census (m : Master) : (bayTransmitEffect m s).census = s.census := by
  unfold bayTransmitEffect
  split <;> rfl

theorem pacingEffect_census (m : Master) : (pacingEffect m s).census = s.census := by
  unfold pacingEffect
  dsimp only
  split
  · rfl
  · split
    · exact bayTransmitEffect_census _ m
    · rfl

theorem bayDownEffect_census (m : Master) : (bayDownEffect m s).census = s.census := by
  unfold bayDownEffect
  split <;> rfl

theorem glitchEffect_census (l : Lane) : (glitchEffect l s).census = s.census := by
  unfold glitchEffect
  split <;> rfl

theorem lineTransmitEffect_census (l : Lane) : (lineTransmitEffect l s).census = s.census := by
  unfold lineTransmitEffect
  split <;> rfl

theorem pairExpiryEffect_moves (i : Nat) : Moves s (pairExpiryEffect i s) := by
  unfold pairExpiryEffect
  split
  · exact .refl s
  · next r hr =>
    split
    · exact .refl s
    · exact .after (endEvent_moves _ _ _ i) (.one (.turned (mem_of_tabGet hr) (.expired s.lines _)) rfl)

theorem silenceExpiryEffect_moves (i : Nat) : Moves s (silenceExpiryEffect i s) := by
  unfold silenceExpiryEffect
  split
  · exact .refl s
  · next r hr =>
    split
    · exact .refl s
    · exact .after (endEvent_moves _ _ _ i) (.one (.turned (mem_of_tabGet hr) (.silenced s.lines)) rfl)

theorem removeOrigin_moves {i : Nat} {r : Origin} (hr : (i, r) ∈ s.origins)
    (h : r.forget ≠ none ∨ isLead s.origins i = false) : Moves s (removeOrigin i s) :=
  (markChange_moves s (mem_tabKeys hr)).trans (.one (.removed hr h) rfl)

theorem forgetExpiryEffect_moves (i : Nat) : Moves s (forgetExpiryEffect i s) := by
  unfold forgetExpiryEffect
  split
  · exact .refl s
  · next r hr =>
    split
    · exact .refl s
    · next hf => exact removeOrigin_moves s (mem_of_tabGet hr) (.inl hf)

theorem holdExpiryEffect_moves (i : Nat) : Moves s (holdExpiryEffect i s) := by
  unfold holdExpiryEffect
  split
  · exact .refl s
  · next r hr =>
    split
    · exact .refl s
    · exact .after (endEvent_moves _ _ _ i) (.one (.turned (mem_of_tabGet hr) .rebased) rfl)

/-! ## Apply -/

end

section
variable {m : Master} {s t : State}

/-- The reference link of a put as R155 resolves it: one that fits, put on no lead. -/
theorem resolveRef_some {a : Addr} {ref : Option Addr} {x : Option Nat} (h : resolveRef s a ref = some x) :
    RefFits s.origins a x ∧ ∀ i r, findOrigin s a = some (i, r) → x = none ∨ isLead s.origins i = false := by
  unfold resolveRef at h
  split at h
  · cases h
    exact ⟨nofun, fun _ _ _ => .inl rfl⟩
  · next b =>
    split at h
    · cases h
    · next hne =>
      split at h
      · cases h
      · next j lead hf =>
        obtain ⟨hmem, hb⟩ := findOrigin_some hf
        split at h
        · cases h
        · next hfit =>
          rw [not_or, Bool.not_eq_true, Bool.not_eq_true, Option.isSome_eq_false_iff, Option.isNone_iff_eq_none] at hfit
          have hlead : ∀ k, some j = some k → ∃ lead, (k, lead) ∈ s.origins ∧ lead.addr ≠ a ∧ lead.learned = false ∧
              lead.cfg.ref = none := fun k hk => by
            cases hk
            exact ⟨lead, hmem, hb ▸ hne, hfit⟩
          split at h
          · next hown =>
            cases h
            exact ⟨hlead, fun i r hi => by simp [hown] at hi⟩
          · next me _ hown =>
            split at h
            · cases h
            · next hl =>
              cases h
              refine ⟨hlead, fun i r hi => .inr ?_⟩
              rw [hown] at hi
              cases hi
              simpa using hl

theorem putOrigin_moves {a : Addr} {f : PutFields} (h : putOrigin m a f.clamped s = .ok t) : Moves s t := by
  unfold putOrigin at h
  split at h
  · next i r hf =>
    obtain ⟨hmem, rfl⟩ := findOrigin_some hf
    split at h
    · cases h
    · split at h
      · cases h
      · next hrise =>
        split at h
        · cases h
        · next ref href =>
          obtain ⟨hfits, hlead⟩ := resolveRef_some href
          split at h
          · next hl =>
            cases h
            refine .trans (markChange_moves s (mem_tabKeys hmem))
              (.one (.turned hmem (.promoted m f ref hl (by simpa using hrise) hfits)) rfl)
          · next hl =>
            cases h
            exact .one (.turned hmem (.reconfigured f ref (by simpa using hl) (by simpa using hrise) hfits
              (hlead i r hf))) rfl
  · next hf =>
    split at h
    · cases h
    · next hrise =>
      split at h
      · cases h
      · next ref href =>
        split at h
        · cases h
        · next hfull =>
          cases h
          have hlt : s.origins.length < 256 := not_le.1 fun h => hfull (decide_eq_true h)
          have hm := toldFull_moves s
          obtain ⟨k, e⟩ := toldFull_frame s
          rw [createSilent, placeOrigin_eq]
          rw [e] at hm ⊢
          exact (Relation.ReflTransGen.tail hm (.configured m a f ref hlt (findOrigin_none hf)
            (by simpa using hrise) (resolveRef_some href).1)).tail (.marked _ (mem_tabKeys (mem_tabPut_same ..)))

theorem deleteOrigin_moves {a : Addr} (h : deleteOrigin m a s = .ok t) : Moves s t := by
  unfold deleteOrigin at h
  split at h
  · cases h
  · next i r hf =>
    obtain ⟨hmem, -⟩ := findOrigin_some hf
    split at h
    · cases h
    · next hl =>
      split at h
      · cases h
      · dsimp only at h
        split at h
        · next hleft =>
          cases h
          exact .one (.turned hmem (.shared _ (by simpa using hl) hleft)) rfl
        · split at h
          · cases h
          · next hlead =>
            cases h
            exact removeOrigin_moves s hmem (.inr (by simpa using hlead))

theorem shareOrigin_moves {a : Addr} (h : shareOrigin m a s = .ok t) : Moves s t := by
  unfold shareOrigin at h
  split at h
  · cases h
  · next i r hf =>
    split at h
    · cases h
    · next hl =>
      split at h
      · cases h
      · cases h
        exact .one (.turned (findOrigin_some hf).1 (.shared ⟨true, true⟩ (by simpa using hl) (.inl rfl))) rfl

theorem putGlobal_moves {g : GlobalSetting} {v1 v2 v3 : Nat}
    (h : putGlobal g (globalClamp g v1) (globalClamp g v2) (globalClamp g v3) s = .ok t) : Moves s t := by
  unfold putGlobal at h
  split at h
  · cases h
  · next hrise =>
    cases h
    refine .one (.regulated g v1 v2 v3 hrise) ?_
    split
    · next hg => subst hg; rfl
    · rfl

theorem commitItem_moves {it : Item} {c : Bool} (h : commitItem m it s = .ok (t, c)) : Moves s t := by
  have ok_of_map {x : Except RefusalReason State} {b : Bool} (h : (x.map fun s' => (s', b)) = .ok (t, c)) :
      x = .ok t := by
    cases x with
    | error e => cases h
    | ok u => cases h; rfl
  cases it with
  | originPut a f => exact putOrigin_moves (ok_of_map h)
  | originDelete a => exact deleteOrigin_moves (ok_of_map h)
  | originShare a => exact shareOrigin_moves (ok_of_map h)
  | groupJoin a cls =>
    have hj := ok_of_map h
    obtain ⟨g, e⟩ := joinGroup_frame hj
    exact .one (.grouped t.groups (joinGroup_sound hj)) (by rw [e]; rfl)
  | groupLeave a =>
    cases h
    obtain ⟨g, e⟩ := leaveGroup_frame s m a
    exact .one (.grouped _ (leaveGroup_sound m a)) (by rw [e]; rfl)
  | globalPut g v1 v2 v3 => exact putGlobal_moves (ok_of_map h)
  | bayPut b v => cases h; exact .of_census rfl

theorem commitItems_moves : ∀ {its : List Item} {n first first' : Nat} {s : State},
    commitItems m its n first s = .ok (t, first') → Moves s t
  | [], _, _, _, _, h => by cases h; exact .refl _
  | it :: its, n, first, first', s, h => by
    simp only [commitItems] at h
    split at h
    · cases h
    · next hc => exact (commitItem_moves hc).trans (commitItems_moves h)

variable (s)

theorem finishApply_moves (m : Master) (r : ApplyResult) : Moves s (finishApply m r s) :=
  .after (raiseFor_moves _ m .applyDone) (.of_census rfl)

theorem takeApply_moves (m : Master) : Moves s (takeApply m s) := by
  unfold takeApply
  dsimp only
  split
  · exact finishApply_moves s m _
  · next hc =>
    exact .after (finishApply_moves _ m _) (((commitItems_moves hc).trans (compareAll_moves _)).trans (.of_census rfl))

theorem applyTakenEffect_moves : Moves s (applyTakenEffect s) := by
  unfold applyTakenEffect
  split
  · exact takeApply_moves s .m1
  · split
    · exact takeApply_moves s .m2
    · exact .refl s

end

/-- Every command makes moves, but the resets, the completion of a save and those of a control link. -/
theorem exec_moves {c : Instr} {s t : State} (h : exec c s = .next t) (hlink : c.link = none)
    (hpower : ∀ p, c ≠ .powerOn p) (hpin : ∀ p, c ≠ .resetPin p) (hrestart : ∀ p, c ≠ .restartTakesEffect p)
    (hsave : ∀ v, c ≠ .saveCompletion v) : Moves s t := by
  cases c with
  | powerOn p => exact absurd rfl (hpower p)
  | resetPin p => exact absurd rfl (hpin p)
  | restartTakesEffect p => exact absurd rfl (hrestart p)
  | saveCompletion v => exact absurd rfl (hsave v)
  | startQuietEnd => cases h; exact quietEndEffect_moves s
  | lineFrameReceive l f => cases h; exact lineFrameEffect_moves s l f
  | bayFrameReceive m f => cases h; exact bayFrameEffect_moves s m f
  | bayLinkUp m => cases h; exact .of_census rfl
  | bayLinkDown m => cases h; exact .of_census (bayDownEffect_census s m)
  | lineLinkLoss l => cases h; exact lineLossEffect_moves s l
  | glitch l => cases h; exact .of_census (glitchEffect_census s l)
  | linkFailExpiry l => cases h; exact linkFailEffect_moves s l
  | lineLinkUp l => cases h; exact lineUpEffect_moves s l
  | settleExpiry l => cases h; exact settleEffect_moves s l
  | probeLimitExpiry l => cases h; exact probeLimitEffect_moves s l
  | rollCallTimerExpiry => cases h; exact rollTimerEffect_moves s
  | lineTransmitStart l => cases h; exact .of_census (lineTransmitEffect_census s l)
  | lineTransmitDone l => cases h; exact .of_census rfl
  | bayTransmitStart m => cases h; exact .of_census (bayTransmitEffect_census s m)
  | bayTransmitDone m => cases h; exact .of_census rfl
  | pacingTimerExpiry m => cases h; exact .of_census (pacingEffect_census s m)
  | pairExpiry i => cases h; exact pairExpiryEffect_moves s i
  | silenceExpiry i => cases h; exact silenceExpiryEffect_moves s i
  | forgetExpiry i => cases h; exact forgetExpiryEffect_moves s i
  | holdExpiry i => cases h; exact holdExpiryEffect_moves s i
  | alertHoldExpiry => cases h; exact alertHoldEffect_moves s
  | secondsTick => cases h; exact .of_census rfl
  | applyTaken => cases h; exact applyTakenEffect_moves s
  | _ => cases hlink

end Sys2Proof.Machine
end

section
/-! SUPPORT. Control links stay sound (R14, R15, R161, R167 to R170): events and changes noted on a link, and what a
command of a link does to the part. -/

namespace Sys2Proof.Machine

/-! ## Flags, masks and change sets -/

theorem kinds_and {e : EventSet} (h : e &&& ~~~allKinds = 0) (x : EventSet) : e &&& x &&& ~~~allKinds = 0 := by
  rw [BitVec.and_assoc, BitVec.and_comm x, ← BitVec.and_assoc, h]
  exact BitVec.zero_and

theorem kinds_or_bit {e : EventSet} (h : e &&& ~~~allKinds = 0) (k : EventKind) :
    (e ||| k.bit) &&& ~~~allKinds = 0 := by
  have hk : k.bit &&& ~~~allKinds = 0 := by cases k <;> decide
  rw [BitVec.and_comm, BitVec.and_or_distrib_left, BitVec.and_comm, h, BitVec.and_comm, hk, BitVec.or_self]

namespace ControlLink.sound
variable {c : ControlLink} (h : c.sound)
include h

theorem raise (k : EventKind) : (c.raise k).sound := by
  obtain ⟨hf, he, hm, hr, hi, ha⟩ := h
  exact ⟨hf, kinds_or_bit he k, hm, hr, hi, ha⟩

theorem addChange {i : Nat} (hlt : i < 256) : (c.addChange i).sound := by
  obtain ⟨hf, he, hm, hr, hi, ha⟩ := h
  refine ⟨hf, he, hm, risingFrom_setInsert (Nat.zero_le i) hr, fun j hj => ?_, ha⟩
  rcases mem_setInsert.1 hj with rfl | hj
  · exact hlt
  · exact hi j hj

theorem clearFlags (x : EventSet) : ({ c with flags := c.flags &&& x } : ControlLink).sound := by
  obtain ⟨hf, he, hm, hr, hi, ha⟩ := h
  exact ⟨hf, kinds_and he x, hm, hr, hi, ha⟩

theorem setMask (x : EventSet) : ({ c with mask := x &&& allKinds } : ControlLink).sound := by
  obtain ⟨hf, he, hm, hr, hi, ha⟩ := h
  exact ⟨hf, he, by
    rw [BitVec.and_assoc, show allKinds &&& ~~~allKinds = 0 by decide]
    exact BitVec.and_zero, hr, hi, ha⟩

theorem dropChanges (n : Nat) : ({ c with changes := c.changes.drop n } : ControlLink).sound := by
  obtain ⟨hf, he, hm, hr, hi, ha⟩ := h
  exact ⟨hf, he, hm, risingFrom_drop n hr, fun j hj => hi j (List.mem_of_mem_drop hj), ha⟩

theorem cut (n : Count) : ({ c with framing := .idle, cut := n } : ControlLink).sound := by
  obtain ⟨-, hrest⟩ := h
  exact ⟨.inl rfl, hrest⟩

theorem answered (st : Status) {results : List Byte} (hl : results.length ≤ 64) :
    ({ c with framing := .answering, answer := some ⟨st, if st = .ok then results else []⟩ } : ControlLink).sound := by
  obtain ⟨-, he, hm, hr, hi, -⟩ := h
  refine ⟨.inr ⟨rfl, nofun⟩, he, hm, hr, hi, fun x hx => ?_⟩
  cases hx
  dsimp only
  split
  · next hok => exact ⟨hl, fun hn => absurd hok hn⟩
  · exact ⟨Nat.zero_le _, fun _ => rfl⟩

end ControlLink.sound

theorem ControlLink.reset_sound : ControlLink.reset.sound :=
  ⟨.inl rfl, rfl, rfl, rfl, by simp [ControlLink.reset], nofun⟩

theorem linksSound_iff (x : PerMaster ControlLink) (s : State) (hx : s.links = x) :
    LinksSound s ↔ ∀ m, (x.get m).sound := by
  subst hx
  exact ⟨fun h m => by cases m; exacts [h.1, h.2], fun h => ⟨h .m1, h .m2⟩⟩

/-! ## Lengths of results (R162) -/

@[simp] theorem length_byteField (n : Nat) : (byteField n).length = 1 := length_beBytes 1 n
@[simp] theorem length_wordField (n : Nat) : (wordField n).length = 2 := length_beBytes 2 n
@[simp] theorem length_countField (c : BitVec 32) : (countField c).length = 4 := length_beBytes 4 _
@[simp] theorem length_skewField (v : Int) : (skewField v).length = 3 := length_beBytes 3 _
@[simp] theorem length_flagField (b : Bool) : (flagField b).length = 1 := length_byteField _

theorem length_optField {α : Type} {width : Nat} {f : α → List Byte} (hf : ∀ v, (f v).length = width) (x : Option α) :
    (optField width f x).length = 1 + width := by
  cases x <;> simp [optField, hf]

theorem length_noteFields (n : LearningNote) : (noteFields n).length = 2 := by cases n <;> rfl

theorem length_settingsPart (r : Origin) : (settingsPart r).length = 37 := by
  have href := length_optField length_byteField r.cfg.ref
  have hforget := length_optField length_byteField r.forgetTime
  have hnote := length_optField length_noteFields r.note
  unfold settingsPart
  simp only [List.length_append]
  simp only [length_addrBytes, length_byteField, length_wordField, length_skewField, length_flagField]
  rw [href, hforget, hnote]

theorem length_windowPart (r : Origin) : (windowPart r).length = 13 := by simp [windowPart]

theorem length_pairsPart (r : Origin) : (pairsPart r).length = 4 + 7 * r.win.pairs.length := by
  simp [pairsPart, pairFields, List.length_flatMap]
  omega

theorem length_lanePart (r : Origin) : (lanePart r).length = 18 := by
  simp [lanePart, length_optField length_countField]

theorem length_pipelinePart (r : Origin) : (pipelinePart r).length = 19 := by simp [pipelinePart]

theorem length_countersPart (r : Origin) : (countersPart r).length = 48 := by simp [countersPart]

theorem length_notificationPart (r : Origin) : (notificationPart r).length = 3 := by simp [notificationPart]

/-- A part of READ ORIGIN has room in an answer; the open pairs have it because they are at most eight. -/
theorem length_originPart {r : Origin} (h : r.win.pairs.length ≤ 8) (n : Nat) :
    ((originPart r n).getD []).length ≤ 63 := by
  unfold originPart
  split
  · exact (length_settingsPart r).trans_le (by decide)
  · exact (length_windowPart r).trans_le (by decide)
  · exact (length_pairsPart r).trans_le (by omega)
  · exact (length_lanePart r).trans_le (by decide)
  · exact (length_pipelinePart r).trans_le (by decide)
  · exact (length_countersPart r).trans_le (by decide)
  · exact (length_notificationPart r).trans_le (by decide)
  · exact Nat.zero_le _

theorem length_portPart {s : State} {port part : Nat} {bs : List Byte} (h : portPart s port part = some bs) :
    bs.length ≤ 64 := by
  have line (l : Lane) (h : linePart s l part = some bs) : bs.length ≤ 64 := by
    unfold linePart at h
    split at h
    · cases h
      simp [lineStatePart,
        length_optField (f := fun l : Lane => byteField (lanePosition l)) fun l => length_byteField _]
    · cases h; simp [lineCounts1]
    · cases h; simp [lineCounts2]
    · cases h
  have bay (m : Master) (h : bayPart s m part = some bs) : bs.length ≤ 64 := by
    unfold bayPart at h
    split at h
    · cases h; simp [bayStatePart, length_optField (f := addrBytes) (width := 6) length_addrBytes]
    · cases h; simp [bayCounts1]
    · cases h; simp [bayCounts2]
    · cases h
  unfold portPart at h
  split at h
  · exact line .a h
  · exact line .b h
  · exact bay .m1 h
  · exact bay .m2 h
  · cases h

theorem length_applyFields (r : ApplyResult) : r.fields.length = 4 := by cases r <;> rfl

theorem length_saveFields (r : SaveResult) : r.fields.length = 2 := by cases r <;> rfl

theorem length_changeResults (l : List Nat) : (changeResults l).length ≤ 64 := by
  simp only [changeResults, List.length_append, length_byteField, length_wordField, List.length_flatMap,
    List.map_const', List.sum_replicate, smul_eq_mul, mul_one]
  have := List.length_take_le 16 l
  simp only [Config.maxChangesRead]
  omega

/-! ## Commands of a link -/

/-- No record holds more than eight open pairs, which is what an answer has room for. -/
def PairsBounded (s : State) : Prop := ∀ e ∈ s.origins, e.2.win.pairs.length ≤ 8

/-- What a set holds after an event: what it held, or the snapshot of the save in flight. -/
def KeptOrSaved (s : State) (old new : SetContent) : Prop := new = old ∨ ∃ r, s.save = some r ∧ new = r.snapshot

/-- What a command of link `m`, or the completion of its master's save, does: it leaves the tables, the settings and
the other link alone, keeps its own link sound, and puts into the store a snapshot of the state at most. -/
structure LinkStep (m : Master) (s t : State) : Prop where
  globals : t.globals = s.globals
  origins : t.origins = s.origins
  order : t.silentOrder = s.silentOrder
  groups : t.groups = s.groups
  other : t.links.get (otherMaster m) = s.links.get (otherMaster m)
  own : PairsBounded s → (s.links.get m).sound → (t.links.get m).sound
  set1 : KeptOrSaved s s.set1.content t.set1.content
  set2 : KeptOrSaved s s.set2.content t.set2.content
  save : ∀ r, t.save = some r → s.save = some r ∨ r.snapshot = snapshotOf s

namespace LinkStep
variable {m : Master} {s t : State}

theorem refl (m : Master) (s : State) : LinkStep m s s := 
  ⟨rfl, rfl, rfl, rfl, rfl, fun _ h => h, .inl rfl, .inl rfl, fun _ => .inl⟩

theorem of_census (h : t.census = s.census) : LinkStep m s t := by
  obtain ⟨h1, h2, h3, h4, h5, h6, h7, h8⟩ := Census.mk.inj h
  exact ⟨h1, h2, h3, h4, by rw [h5], fun _ hs => by rw [h5]; exact hs, .inl (by rw [h6]), .inl (by rw [h7]),
    fun r hr => .inl (h8 ▸ hr)⟩

theorem answer (h : LinkStep m s t) (st : Status) {results : List Byte}
    (hl : PairsBounded s → results.length ≤ 64) : LinkStep m s (reply m st results t) where
  globals := h.globals
  origins := h.origins
  order := h.order
  groups := h.groups
  other := by rw [reply_links, PerMaster.get_set_other]; exact h.other
  own hp hs := by rw [reply_links, PerMaster.get_set]; exact (h.own hp hs).answered st (hl hp)
  set1 := h.set1
  set2 := h.set2
  save := h.save

/-- An answer without results. -/
theorem status (h : LinkStep m s t) (st : Status) : LinkStep m s (reply m st [] t) :=
  h.answer st fun _ => Nat.zero_le _

theorem onLink (m : Master) (s : State) {f : ControlLink → ControlLink}
    (hf : ∀ c : ControlLink, c.sound → (f c).sound) : LinkStep m s (s.onLink m f) where
  globals := rfl
  origins := rfl
  order := rfl
  groups := rfl
  other := by rw [onLink_links, PerMaster.get_set_other]
  own _ hs := by rw [onLink_links, PerMaster.get_set]; exact hf _ hs
  set1 := .inl rfl
  set2 := .inl rfl
  save _ := .inl

theorem takeCommand {x : Args} {own : List Byte → State} (h : ∀ bytes, LinkStep m s (own bytes)) :
    LinkStep m s (Machine.takeCommand m x s own) := by
  obtain e | ⟨e, -⟩ | ⟨bytes, -, -, -, e⟩ := takeCommand_cases s m x own
  · rw [e]; exact (refl m s).status _
  · rw [e]; exact (refl m s).status _
  · rw [e]; exact h bytes

theorem takeFixed {n : Nat} {x : Args} {own : List Byte → State} (h : ∀ bytes, LinkStep m s (own bytes)) :
    LinkStep m s (Machine.takeFixed m n x s own) :=
  takeCommand fun bytes => by
    split
    · exact (refl m s).status _
    · exact h bytes

end LinkStep

section
variable (m : Master) (s : State)

theorem cutEffect_linkStep (bs : List Byte) : LinkStep m s (cutEffect m bs s) := by
  unfold cutEffect
  split
  · exact .onLink m s fun _ h => h.cut _
  · exact .refl m s

theorem readOriginEffect_linkStep (x : Args) : LinkStep m s (readOriginEffect m x s) :=
  .takeFixed fun bytes => by
    split
    · exact (LinkStep.refl m s).status _
    · split
      · exact (LinkStep.refl m s).answer _ fun _ => by simp
      · next r hr =>
        refine (LinkStep.refl m s).answer _ fun hp => ?_
        have := length_originPart (r := r) (hp _ (mem_of_tabGet hr)) (numAt bytes 1 1)
        rw [List.length_append, length_flagField]
        omega

theorem findOriginEffect_linkStep (x : Args) : LinkStep m s (findOriginEffect m x s) :=
  .takeFixed fun _ => (LinkStep.refl m s).answer _ fun _ => by
    unfold findResults
    split <;> simp

theorem readGroupEffect_linkStep (x : Args) : LinkStep m s (readGroupEffect m x s) :=
  .takeFixed fun bytes => by
    split
    · exact (LinkStep.refl m s).status _
    · refine (LinkStep.refl m s).answer _ fun _ => ?_
      unfold groupResults
      split <;> simp

theorem readPortEffect_linkStep (x : Args) : LinkStep m s (readPortEffect m x s) :=
  .takeFixed fun bytes => by
    split
    · exact (LinkStep.refl m s).status _
    · next hp => exact (LinkStep.refl m s).answer _ fun _ => length_portPart hp

theorem stageEffect_linkStep (x : Args) : LinkStep m s (stageEffect m x s) :=
  .takeCommand fun bytes => by
    split
    · exact (LinkStep.refl m s).status _
    · split
      · exact (LinkStep.refl m s).status _
      · split
        · exact (LinkStep.refl m s).status _
        · refine LinkStep.status ?_ _
          exact .of_census rfl

theorem discardEffect_linkStep (x : Args) : LinkStep m s (discardEffect m x s) :=
  .takeFixed fun bytes => by
    split
    · exact (LinkStep.refl m s).status _
    · refine LinkStep.status ?_ _
      exact .of_census rfl

theorem applyEffect_linkStep (x : Args) : LinkStep m s (applyEffect m x s) :=
  .takeFixed fun bytes => by
    split
    · exact (LinkStep.refl m s).status _
    · refine LinkStep.status ?_ _
      exact .of_census rfl

theorem readApplyEffect_linkStep (x : Args) : LinkStep m s (readApplyEffect m x s) :=
  .takeFixed fun _ => (LinkStep.refl m s).answer _ fun _ => by simp [length_applyFields]

theorem ackEventsEffect_linkStep (x : Args) : LinkStep m s (ackEventsEffect m x s) :=
  .takeFixed fun _ => (LinkStep.onLink m s fun _ h => h.clearFlags _).answer _ fun _ => by simp

theorem setMaskEffect_linkStep (x : Args) : LinkStep m s (setMaskEffect m x s) :=
  .takeFixed fun _ => (LinkStep.onLink m s fun _ h => h.setMask _).status _

theorem readChangesEffect_linkStep (x : Args) : LinkStep m s (readChangesEffect m x s) :=
  .takeFixed fun _ => (LinkStep.onLink m s fun _ h => h.dropChanges _).answer _ fun _ => length_changeResults _

theorem ackRestartEffect_linkStep (x : Args) : LinkStep m s (ackRestartEffect m x s) :=
  .takeFixed fun _ => (LinkStep.onLink m s fun _ h => h.clearFlags _).status _

theorem saveSetEffect_linkStep (x : Args) : LinkStep m s (saveSetEffect m x s) :=
  .takeFixed fun bytes => by
    dsimp only
    split
    · exact (LinkStep.refl m s).status _
    · split
      · exact (LinkStep.refl m s).status _
      · split
        · refine LinkStep.status ?_ _
          refine ⟨rfl, rfl, rfl, rfl, PerMaster.get_set_other .., fun _ h => ?_, .inl rfl, .inl rfl,
            fun _ => .inl⟩
          rw [reportSave, raiseFor_links, PerMaster.get_set]
          exact h.raise .saveDone
        · next u _ =>
          refine LinkStep.status ?_ _
          cases u
          · exact ⟨rfl, rfl, rfl, rfl, rfl, fun _ h => h, .inl rfl, .inl rfl, fun r hr => .inr (by cases hr; rfl)⟩
          · exact ⟨rfl, rfl, rfl, rfl, rfl, fun _ h => h, .inl rfl, .inl rfl, fun r hr => .inr (by cases hr; rfl)⟩

theorem selectEffect_linkStep (x : Args) : LinkStep m s (selectEffect m x s) :=
  .takeFixed fun bytes => by
    split
    · exact (LinkStep.refl m s).status _
    · refine LinkStep.answer ?_ _ fun _ => by simp [storeResults, length_saveFields]
      exact .of_census rfl

theorem restartEffect_linkStep (x : Args) : LinkStep m s (restartEffect m x s) :=
  .takeFixed fun bytes => by
    split
    · exact (LinkStep.refl m s).status _
    · refine LinkStep.status ?_ _
      exact .of_census rfl

theorem reportSave_linkStep {s t : State} (h : LinkStep m s t) (r : SaveResult) : LinkStep m s (reportSave m r t) where
  globals := h.globals
  origins := h.origins
  order := h.order
  groups := h.groups
  other := by rw [reportSave, raiseFor_links, PerMaster.get_set_other]; exact h.other
  own hp hs := by rw [reportSave, raiseFor_links, PerMaster.get_set]; exact (h.own hp hs).raise .saveDone
  set1 := h.set1
  set2 := h.set2
  save := h.save

/-- The end of a save puts its snapshot into its set, or leaves the set as it is. -/
theorem saveCompletionEffect_linkStep (verified : Bool) : ∃ m, LinkStep m s (saveCompletionEffect verified s) := by
  unfold saveCompletionEffect
  split
  · exact ⟨.m1, .refl _ s⟩
  · next r hr =>
    refine ⟨r.requester, ?_⟩
    have ended : LinkStep r.requester s { s with save := none } :=
      ⟨rfl, rfl, rfl, rfl, rfl, fun _ h => h, .inl rfl, .inl rfl, fun _ h => by cases h⟩
    split
    · refine reportSave_linkStep _ ?_ _
      cases hs : r.slot with
      | u1 => exact { ended with set1 := .inr ⟨r, hr, rfl⟩ }
      | u2 => exact { ended with set2 := .inr ⟨r, hr, rfl⟩ }
    · exact reportSave_linkStep _ ended _

end

/-- Every command of a link is a step of that link. -/
theorem exec_linkStep {c : Instr} {m : Master} {s t : State} (hm : c.link = some m) (h : exec c s = .next t) :
    LinkStep m s t := by
  cases c with
  | cutTransaction _ bs => cases hm; cases h; exact cutEffect_linkStep m s bs
  | unknownCommand _ code x => cases hm; cases h; exact (LinkStep.refl m s).status _
  | identify _ x =>
    cases hm; cases h
    exact .takeFixed fun _ => (LinkStep.refl m s).answer _ fun _ => by simp [identifyResults]
  | readOrigin _ x => cases hm; cases h; exact readOriginEffect_linkStep m s x
  | findOrigin _ x => cases hm; cases h; exact findOriginEffect_linkStep m s x
  | readGroup _ x => cases hm; cases h; exact readGroupEffect_linkStep m s x
  | readPort _ x => cases hm; cases h; exact readPortEffect_linkStep m s x
  | readTime _ x =>
    cases hm; cases h
    exact .takeFixed fun _ => (LinkStep.refl m s).answer _ fun _ => by simp [timeResults]
  | stage _ x => cases hm; cases h; exact stageEffect_linkStep m s x
  | discardStaging _ x => cases hm; cases h; exact discardEffect_linkStep m s x
  | apply _ x => cases hm; cases h; exact applyEffect_linkStep m s x
  | readApplyResult _ x => cases hm; cases h; exact readApplyEffect_linkStep m s x
  | readEvents _ x =>
    cases hm; cases h
    exact .takeFixed fun _ => (LinkStep.refl m s).answer _ fun _ => by simp [eventResults]
  | ackEvents _ x => cases hm; cases h; exact ackEventsEffect_linkStep m s x
  | setEventMask _ x => cases hm; cases h; exact setMaskEffect_linkStep m s x
  | readChanges _ x => cases hm; cases h; exact readChangesEffect_linkStep m s x
  | ackRestart _ x => cases hm; cases h; exact ackRestartEffect_linkStep m s x
  | saveSet _ x => cases hm; cases h; exact saveSetEffect_linkStep m s x
  | selectStartSet _ x => cases hm; cases h; exact selectEffect_linkStep m s x
  | restart _ x => cases hm; cases h; exact restartEffect_linkStep m s x
  | _ => cases hm

end Sys2Proof.Machine
end

section
/-! SUPPORT. What one command can do, in three kinds, and invariants proved move by move: those of the records alone,
and those of the tables with the links. The statements about the kinds of records and about the tables. -/

namespace Sys2Proof.Machine

/-! ## The kinds of commands -/

/-- The tables, settings and links as start-up finds them once a set is loaded (R174 step 2). -/
def loadedCensus (c : SetContent) (s : State) : Census :=
  ⟨c.globals, tabMap StoredOrigin.load c.origins, [], c.groups, ⟨.reset, .reset⟩, s.set1.check, s.set2.check, none⟩

/-- The sets start-up can load. -/
def Loadable (s : State) (c : SetContent) : Prop := c = factorySet ∨ c = s.set1.content ∨ c = s.set2.content

theorem loadStart_moves (s : State) :
    ∃ c u, Loadable s c ∧ u.census = loadedCensus c s ∧ Moves u (loadStart (clearRuntime s)) := by
  unfold loadStart
  dsimp only
  split
  · exact ⟨factorySet, _, .inl rfl, rfl, .refl _⟩
  · next u hu =>
    split
    · cases u
      · exact ⟨s.set1.content, _, .inr (.inl rfl), rfl, .refl _⟩
      · exact ⟨s.set2.content, _, .inr (.inr rfl), rfl, .refl _⟩
    · refine ⟨factorySet, loadSet factorySet { clearRuntime s with
        set1 := (clearRuntime s).set1.check, set2 := (clearRuntime s).set2.check }, .inl rfl, rfl, ?_⟩
      exact raiseBoth_moves _ .storeRejected

theorem readPhys_moves (phys : Phys) (s : State) : Moves s (readPhys phys s) := by
  have line (b : Bool) (l : Lane) (s : State) : Moves s (if b then lineUp l s else s) := by
    split
    · exact lineUp_moves s l
    · exact .refl s
  have bay (b : Bool) (m : Master) (s : State) : Moves s (if b then bayUpEffect m s else s) := by
    split
    · exact .of_census rfl
    · exact .refl s
  unfold readPhys
  exact .after (bay _ .m2 _) (.after (bay _ .m1 _) (.after (line _ .b _) (line _ .a _)))

theorem startQuiet_moves (s : State) : Moves s (startQuiet s) := by
  unfold startQuiet
  split
  · exact announce_moves s
  · exact .of_census rfl

/-- Start-up loads a set, and then makes moves. -/
theorem startUp_moves (phys : Phys) (s : State) :
    ∃ c u, Loadable s c ∧ u.census = loadedCensus c s ∧ Moves u (startUp phys s) := by
  obtain ⟨c, u, hc, hu, hm⟩ := loadStart_moves s
  refine ⟨c, u, hc, hu, ?_⟩
  unfold startUp
  exact .after (startQuiet_moves _) (.after (readPhys_moves phys _)
    ((hm.trans (raiseBoth_moves _ .restartSeen)).trans (.of_census rfl)))

/-- A command is a step of a link or the end of a save, or makes moves, or loads a set and then makes moves. -/
theorem exec_cases {c : Instr} {s t : State} (h : exec c s = .next t) :
    (∃ m, LinkStep m s t) ∨ Moves s t ∨ ∃ c u, Loadable s c ∧ u.census = loadedCensus c s ∧ Moves u t := by
  cases hl : c.link with
  | some m => exact .inl ⟨m, exec_linkStep hl h⟩
  | none =>
    by_cases hpower : ∃ p, c = .powerOn p
    · obtain ⟨p, rfl⟩ := hpower
      cases h
      obtain ⟨c, u, hc, hu, hm⟩ := startUp_moves p { s with tick := 0, seconds := 0, restarts := 0 }
      exact .inr (.inr ⟨c, u, hc, hu, hm⟩)
    by_cases hpin : ∃ p, c = .resetPin p
    · obtain ⟨p, rfl⟩ := hpin
      cases h
      obtain ⟨c, u, hc, hu, hm⟩ := startUp_moves p { s with tick := 0, seconds := 0, restarts := 0 }
      exact .inr (.inr ⟨c, u, hc, hu, hm⟩)
    by_cases hrestart : ∃ p, c = .restartTakesEffect p
    · obtain ⟨p, rfl⟩ := hrestart
      cases h
      unfold restartTakesEffect
      split
      · obtain ⟨c, u, hc, hu, hm⟩ := startUp_moves p { s with restarts := s.restarts + 1 }
        exact .inr (.inr ⟨c, u, hc, hu, hm⟩)
      · exact .inr (.inl (.refl s))
    by_cases hsave : ∃ v, c = .saveCompletion v
    · obtain ⟨v, rfl⟩ := hsave
      cases h
      exact .inl (saveCompletionEffect_linkStep s v)
    · exact .inr (.inl (exec_moves h hl (fun p e => hpower ⟨p, e⟩) (fun p e => hpin ⟨p, e⟩)
        (fun p e => hrestart ⟨p, e⟩) fun v e => hsave ⟨v, e⟩))

/-- What does not read the queue or the clock is an invariant of the steps when it is one of the commands. -/
theorem step_preserves {I : State → Prop} (hfree : ∀ s p k, I s → I { s with pending := p, tick := k })
    (hexec : ∀ c s t, I s → exec c s = .next t → I t) {s t : State} (h : I s) (hs : step s = .next t) : I t := by
  unfold step at hs
  split at hs
  · cases hs
    exact hfree s s.pending (s.tick + 1) h
  · next rest _ => exact hexec _ _ t (hfree s rest s.tick h) hs

/-! ## What the store holds -/

theorem LinkStep.storedAll {m : Master} {s t : State} (h : LinkStep m s t) {p : SetContent → Prop}
    (hp : p (snapshotOf s)) (hs : storedAll p s) : storedAll p t := by
  obtain ⟨h1, h2, h3⟩ := hs
  have kept {old new : SetContent} (ho : p old) (hk : KeptOrSaved s old new) : p new := by
    obtain rfl | ⟨r, hr, rfl⟩ := hk
    · exact ho
    · exact h3 r hr
  refine ⟨kept h1 h.set1, kept h2 h.set2, fun r hr => ?_⟩
  rcases h.save r hr with hr | hr
  · exact h3 r hr
  · exact hr ▸ hp

theorem Move.store {c c' : Census} (h : Move c c') : c'.set1 = c.set1 ∧ c'.set2 = c.set2 ∧ c'.save = c.save := by
  cases h <;> exact ⟨rfl, rfl, rfl⟩

theorem Moves.storedAll {s t : State} (h : Moves s t) {p : SetContent → Prop} (hs : storedAll p s) : storedAll p t := by
  have same : t.census.set1 = s.census.set1 ∧ t.census.set2 = s.census.set2 ∧ t.census.save = s.census.save := by
    unfold Moves at h
    generalize t.census = c at h
    induction h with
    | refl => exact ⟨rfl, rfl, rfl⟩
    | tail _ hm ih =>
      obtain ⟨h1, h2, h3⟩ := hm.store
      exact ⟨h1.trans ih.1, h2.trans ih.2.1, h3.trans ih.2.2⟩
  obtain ⟨h1, h2, h3⟩ := same
  obtain ⟨p1, p2, p3⟩ := hs
  exact ⟨(congrArg UserSet.content h1).symm ▸ p1, (congrArg UserSet.content h2).symm ▸ p2, fun r hr =>
    p3 r (Eq.trans (Eq.symm h3) hr)⟩

theorem storedAll_of_loaded {c : SetContent} {s u : State} (hu : u.census = loadedCensus c s) {p : SetContent → Prop}
    (hs : storedAll p s) : storedAll p u := by
  obtain ⟨-, -, -, -, -, h1, h2, h3⟩ := Census.mk.inj hu
  obtain ⟨p1, p2, -⟩ := hs
  exact ⟨(congrArg UserSet.content h1).symm ▸ p1, (congrArg UserSet.content h2).symm ▸ p2,
    fun r hr => by rw [h3] at hr; cases hr⟩

theorem Loadable.holds {s : State} {c : SetContent} (h : Loadable s c) {p : SetContent → Prop} (hf : p factorySet)
    (hs : storedAll p s) : p c := by
  obtain rfl | rfl | rfl := h
  · exact hf
  · exact hs.1
  · exact hs.2.1

/-! ## Invariants of the records -/

/-- What every record has, and with `Q` every stored one. -/
def EveryRecord (P : Origin → Prop) (Q : StoredOrigin → Prop) (s : State) : Prop :=
  (∀ e ∈ s.origins, P e.2) ∧ storedAll (fun c => ∀ e ∈ c.origins, Q e.2) s

/-- What new records have, what a turn of a record keeps, and what storing and loading a record carry over. -/
structure RecordInvariant (P : Origin → Prop) (Q : StoredOrigin → Prop) : Prop where
  turn : ∀ {c i r r' q}, Turn c i r r' q → P r → P r'
  newcomer : ∀ {g r}, Newcomer g r → P r
  stored : ∀ {r x}, r.stored = some x → P r → Q x
  load : ∀ {x}, Q x → P x.load

namespace RecordInvariant
variable {P : Origin → Prop} {Q : StoredOrigin → Prop} (inv : RecordInvariant P Q)
include inv

/-- A record newly learned, with its creating copy judged. -/
theorem judgedNewcomer {s : State} {k : Copy} {c : Census} {r : Origin} (hs : s.globals = c.globals)
    (hr : Newcomer c.globals r) : P (judgedOrigin s k r) :=
  inv.turn (Turn.judged (c := c) (i := 0) s k hs) (inv.newcomer hr)

theorem move {c c' : Census} (h : Move c c') (hc : ∀ e ∈ c.origins, P e.2) : ∀ e ∈ c'.origins, P e.2 := by
  have put {t : List (Nat × Origin)} {i : Nat} {r : Origin} (hr : P r) (ht : ∀ e ∈ t, P e.2) :
      ∀ e ∈ tabPut t i r, P e.2 := fun e he => by
    rcases mem_tabPut he with rfl | he
    · exact hr
    · exact ht e he
  cases h with
  | raised m k => exact hc
  | marked i hi => exact hc
  | grouped t h => exact hc
  | turned hr ht => exact put (inv.turn ht (hc _ hr)) hc
  | admitted s k a hs hlt ha => exact put (inv.judgedNewcomer hs (.learned a _)) hc
  | evicted s k a head rest hs hq ha =>
    exact put (inv.judgedNewcomer hs (.learned a _)) fun e he => hc e (mem_tabErase he)
  | announced n a hlt ha => exact put (inv.newcomer (.learned a _)) hc
  | configured m a f ref hlt ha hrise href => exact put (inv.newcomer (g := c.globals) (.configured m a f ref hrise)) hc
  | removed hr h => exact fun e he => hc e (mem_tabErase he)
  | regulated g v1 v2 v3 h =>
    dsimp only
    split
    · intro e he
      obtain ⟨r, hr, hx⟩ := mem_tabMap he
      rw [hx]
      exact inv.turn (Turn.relaned (c := c) (i := e.1) _) (hc _ hr)
    · exact hc

theorem moves {s t : State} (h : Moves s t) (hs : ∀ e ∈ s.origins, P e.2) : ∀ e ∈ t.origins, P e.2 := by
  show ∀ e ∈ t.census.origins, P e.2
  unfold Moves at h
  generalize t.census = c at h
  induction h with
  | refl => exact hs
  | tail _ hm ih => exact inv.move hm ih

theorem snapshot {s : State} (h : ∀ e ∈ s.origins, P e.2) : ∀ e ∈ (snapshotOf s).origins, Q e.2 := fun e he => by
  obtain ⟨r, hr, hx⟩ := mem_tabFilterMap he
  exact inv.stored hx (h _ hr)

theorem loaded {c : SetContent} {s u : State} (hu : u.census = loadedCensus c s) (h : ∀ e ∈ c.origins, Q e.2) :
    ∀ e ∈ u.origins, P e.2 := fun e he => by
  have ho : u.origins = tabMap StoredOrigin.load c.origins := congrArg Census.origins hu
  rw [ho] at he
  obtain ⟨x, hx, hl⟩ := mem_tabMap he
  exact hl ▸ inv.load (h _ hx)

theorem step {s t : State} (h : EveryRecord P Q s) (hs : step s = .next t) : EveryRecord P Q t := by
  refine step_preserves (fun _ _ _ h => h) (fun c s t h he => ?_) h hs
  obtain ⟨hp, hq⟩ := h
  rcases exec_cases he with ⟨m, hl⟩ | hm | ⟨c, u, hc, hu, hm⟩
  · exact ⟨hl.origins.symm ▸ hp, hl.storedAll (inv.snapshot hp) hq⟩
  · exact ⟨inv.moves hm hp, hm.storedAll hq⟩
  · have hload := hc.holds (p := fun c => ∀ e ∈ c.origins, Q e.2) (by simp [factorySet]) hq
    exact ⟨inv.moves hm (inv.loaded hu hload), hm.storedAll (storedAll_of_loaded hu hq)⟩

end RecordInvariant

/-! ## Turns of a record -/

theorem capturedSettings_ref (cfg : OriginSettings) (p : Pipeline) : (capturedSettings cfg p).ref = cfg.ref := by
  unfold capturedSettings
  split <;> rfl

/-- A completed pair changes of a record its pipeline, two counters, and its settings when a capture completes. -/
theorem processPair_frame (band : HysteresisBand) (lead : Option Int) (first : Lane) (t1 t2 : Tick) (r : Origin) :
    ∃ cfg pipe cnt, (processPair band lead first t1 t2 r).1 = { r with cfg := cfg, pipe := pipe, cnt := cnt } ∧
      cfg.ref = r.cfg.ref := by
  unfold processPair
  dsimp only
  split
  · exact ⟨_, _, _, rfl, capturedSettings_ref ..⟩
  · exact ⟨_, _, _, rfl, capturedSettings_ref ..⟩

/-- The record a judged copy leaves: what judgment left, with the pipeline of a completed pair and the refresh. -/
theorem judgedOrigin_frame (s : State) (k : Copy) (r : Origin) :
    let j := (judge (judgeSettings s.globals) k ⟨s.lines, r⟩).closing.orig
    ∃ cfg pipe cnt last frame silence, judgedOrigin s k r =
      { j with cfg := cfg, pipe := pipe, cnt := cnt, lane := { j.lane with last := last, lastFrame := frame },
               silence := silence, forget := if j.learned then j.forgetTime else j.forget } ∧
      cfg.ref = j.cfg.ref := by
  unfold judgedOrigin afterJudgment
  dsimp only
  split
  · next p _ =>
    obtain ⟨cfg, pipe, cnt, e, hr⟩ := processPair_frame s.globals.band
      (leadRawOf s.origins (judge (judgeSettings s.globals) k ⟨s.lines, r⟩).closing.orig.cfg) p.first p.tick k.tick
      (judge (judgeSettings s.globals) k ⟨s.lines, r⟩).closing.orig
    rw [e]
    exact ⟨_, _, _, _, _, _, rfl, hr⟩
  · exact ⟨_, _, _, _, _, _, rfl, rfl⟩

/-- A judged copy leaves a record its address, owners, note, forget time and link, and restarts a learned one's
forget timer. -/
theorem judgedOrigin_identity (s : State) (k : Copy) (r : Origin) :
    (judgedOrigin s k r).addr = r.addr ∧ (judgedOrigin s k r).owners = r.owners ∧
    (judgedOrigin s k r).note = r.note ∧ (judgedOrigin s k r).forgetTime = r.forgetTime ∧
    (judgedOrigin s k r).forget = (if r.learned then r.forgetTime else r.forget) ∧
    (judgedOrigin s k r).cfg.ref = r.cfg.ref := by
  obtain ⟨cfg, pipe, cnt, last, frame, silence, e, hr⟩ := judgedOrigin_frame s k r
  obtain ⟨w, l, n, ej⟩ := judge_orig (judgeSettings s.globals) k ⟨s.lines, r⟩
  rw [ej] at e hr
  rw [e]
  exact ⟨rfl, rfl, rfl, rfl, rfl, hr⟩

theorem judgedOrigin_awake (s : State) (k : Copy) {r : Origin} (h : r.judgeable) : (judgedOrigin s k r).Awake := by
  obtain ⟨cfg, pipe, cnt, last, frame, silence, e, -⟩ := judgedOrigin_frame s k r
  rw [e]
  exact judge_awake (judgeSettings s.globals) k (c := ⟨s.lines, r⟩) h

theorem fresh_judgeable (a : Addr) (o : PerMaster Bool) (cfg : OriginSettings) : (Origin.fresh a o cfg).judgeable :=
  ⟨(Window.sound_iff _).2 ⟨Nat.zero_le _, PairsFit.nil _ _, nofun, fun _ => ⟨rfl, rfl, rfl⟩⟩, Nat.zero_le _,
    Nat.zero_le _, iff_of_true rfl rfl⟩

theorem learn_judgeable (p : Profile) (a : Addr) (note : LearningNote) : (Origin.learn p a note).judgeable :=
  fresh_judgeable a ⟨false, false⟩ (learnedSettings p)

theorem relane_judgeable (limit : Nat) {r : Origin} (h : r.judgeable) : (r.relane limit).judgeable := by
  obtain ⟨hw, ha, hb, hs⟩ := h
  rw [Origin.relane_eq]
  exact ⟨hw, ha, hb, hs.trans (LanePart.restated_eq_silent ..).symm⟩

theorem learned_of_owners {r r' : Origin} (h : r'.owners = r.owners) : r'.learned = r.learned := by
  unfold Origin.learned
  rw [h]

/-- Sound windows are an invariant of the records (R55, R73). -/
theorem judgeable_invariant : RecordInvariant Origin.judgeable fun _ => True where
  turn h hr := by
    cases h with
    | notified n => exact hr
    | relaned limit => exact relane_judgeable limit hr
    | judged s k hs => exact (judgedOrigin_awake s k hr).judgeable
    | expired lines p => exact expirePair_judgeable _ p (c := ⟨lines, _⟩) hr
    | silenced lines => exact fallSilent_judgeable _ (c := ⟨lines, _⟩) hr
    | rebased => exact hr
    | reminded hl => exact hr
    | shared owners hl ho => exact hr
    | reconfigured f ref hl hrise href hlead => exact hr
    | promoted m f ref hl hrise href => exact hr
  newcomer h := by
    cases h with
    | learned a note => exact learn_judgeable _ a note
    | configured m a f ref hrise => exact fresh_judgeable a _ _
  stored _ _ := trivial
  load _ := fresh_judgeable _ _ _

/-! ## The kinds of records (R35 to R37, R45) -/

theorem kindSound_of_learned {r : Origin} (hl : r.learned = true) : r.kindSound ↔
    r.forgetTime.isSome = true ∧ r.forget.isSome = true ∧ r.note.isSome = true ∧ r.cfg.ref = none := by
  rw [Origin.kindSound, if_pos hl]

theorem kindSound_of_configured {r : Origin} (hl : r.learned = false) : r.kindSound ↔
    r.forgetTime = none ∧ r.forget = none ∧ r.note = none := by
  rw [Origin.kindSound, if_neg (by simp [hl])]

theorem soleOwner_some (m : Master) : (soleOwner m).one = true ∨ (soleOwner m).two = true :=
  PerMaster.set_true_some _ m

/-- A record with the same owners, forget time, note and link is of the same kind, if its forget timer is. -/
theorem kindSound_congr {r r' : Origin} (h : r.kindSound) (ho : r'.owners = r.owners)
    (ht : r'.forgetTime = r.forgetTime) (hn : r'.note = r.note) (hr : r'.cfg.ref = r.cfg.ref)
    (hf : r'.forget = r.forget ∨ r.learned = true ∧ r'.forget = r.forgetTime) : r'.kindSound := by
  have hl := learned_of_owners ho
  cases hk : r.learned with
  | true =>
    obtain ⟨h1, h2, h3, h4⟩ := (kindSound_of_learned hk).1 h
    refine (kindSound_of_learned (hl.trans hk)).2 ⟨ht ▸ h1, ?_, hn ▸ h3, hr.trans h4⟩
    rcases hf with hf | ⟨-, hf⟩
    · exact hf ▸ h2
    · exact hf ▸ h1
  | false =>
    obtain ⟨h1, h2, h3⟩ := (kindSound_of_configured hk).1 h
    refine (kindSound_of_configured (hl.trans hk)).2 ⟨ht.trans h1, ?_, hn.trans h3⟩
    rcases hf with hf | ⟨hk', -⟩
    · exact hf.trans h2
    · simp [hk] at hk'

theorem kindSound_invariant :
    RecordInvariant Origin.kindSound fun x => x.owners.one = true ∨ x.owners.two = true where
  turn {c i r r' q} h hr := by
    cases h with
    | notified n => exact hr
    | relaned limit => rw [Origin.relane_eq]; exact hr
    | judged s k hs =>
      obtain ⟨-, ho, hn, ht, hf, href⟩ := judgedOrigin_identity s k r
      refine kindSound_congr hr ho ht hn href ?_
      rw [hf]
      split
      · next hl => exact .inr ⟨hl, rfl⟩
      · exact .inl rfl
    | expired lines p =>
      obtain ⟨l, cnt, e, -⟩ := expirePair_orig c.globals.lossLimit p ⟨lines, r⟩
      rw [e]
      exact hr
    | silenced lines =>
      obtain ⟨l, cnt, e, -⟩ := fallSilent_orig c.globals.lossLimit ⟨lines, r⟩
      rw [e]
      exact hr
    | rebased => exact hr
    | reminded hl => exact kindSound_congr hr rfl rfl rfl rfl (.inr ⟨hl, rfl⟩)
    | shared owners hl ho =>
      exact (kindSound_of_configured ((learned_eq_false_iff _).2 ho)).2 ((kindSound_of_configured hl).1 hr)
    | reconfigured f ref hl hrise href hlead =>
      exact (kindSound_of_configured (r := r.reconfigure _ _) hl).2 ((kindSound_of_configured hl).1 hr)
    | promoted m f ref hl hrise href =>
      exact (kindSound_of_configured ((learned_eq_false_iff _).2 (soleOwner_some m))).2 ⟨rfl, rfl, rfl⟩
  newcomer h := by
    cases h with
    | learned a note => exact (kindSound_of_learned rfl).2 ⟨rfl, rfl, rfl, rfl⟩
    | configured m a f ref hrise =>
      exact (kindSound_of_configured ((learned_eq_false_iff _).2 (soleOwner_some m))).2 ⟨rfl, rfl, rfl⟩
  stored hx _ := owned_stored hx
  load hx := (kindSound_of_configured ((load_learned _).2 hx)).2 ⟨rfl, rfl, rfl⟩

/-- Settles O14: the kind of a record is an invariant of the records. -/
theorem recordKindsStaySound : Obligations.RecordKindsStaySound :=
  fun _ _ h hs => kindSound_invariant.step h hs

end Sys2Proof.Machine
end

section
/-! SUPPORT. The tables and the links stay sound together: the register of origins, the delivery table, the stored
sets and the control links, move by move (R33, R35, R43, R132, R155, R167, R170). -/

namespace Sys2Proof.Machine

/-! ## The register under one move -/

/-- The reference link of a put, read in the register. -/
theorem RegisterSound.leads_of_refFits {t : List (Nat × Origin)} {q : List Nat} (h : RegisterSound t q) {i : Nat}
    {a : Addr} {ref : Option Nat} (href : RefFits t a ref) (hi : ∀ x, tabGet t i = some x → x.addr = a) :
    ∀ j, ref = some j → j ≠ i ∧ ∃ lead, tabGet t j = some lead ∧ lead.learned = false ∧ lead.cfg.ref = none := by
  intro j hj
  obtain ⟨lead, hmem, hne, hfit⟩ := href j hj
  have hget := (tabWf.get_iff h.canonical).2 hmem
  exact ⟨fun e => hne (hi lead (e ▸ hget)), lead, hget, hfit⟩

/-- A turn in place keeps the register sound. -/
theorem RegisterSound.turn {c : Census} {i : Nat} {r r' : Origin} {q : List Nat}
    (h : RegisterSound c.origins c.order) (hi : (i, r) ∈ c.origins) (hr : r.judgeable) (ht : Turn c i r r' q) :
    RegisterSound (tabPut c.origins i r') q := by
  have hget := (tabWf.get_iff h.canonical).2 hi
  have haddr : ∀ j x, tabGet c.origins j = some x → x.addr = r.addr → j = i :=
    fun j x hx e => h.addrs j i x r hx hget e
  cases ht with
  | notified n => exact h.keep hget rfl rfl rfl Iff.rfl
  | relaned limit =>
    refine h.keep hget ?_ ?_ ?_ ?_ <;> rw [Origin.relane_eq]
    · rfl
    · exact LanePart.restated_eq_silent ..
  | judged s k hs =>
    obtain ⟨ha, ho, -, -, -, href⟩ := judgedOrigin_identity s k r
    obtain ⟨-, -, -, -, hawake⟩ := judgedOrigin_awake s k hr
    obtain ⟨-, -, -, hsilent⟩ := hr
    refine h.replace hget ha (learned_of_owners ho) href ?_ fun j => ?_
    · split
      · exact h.nodup.erase i
      · exact h.nodup
    · simp only [hawake, and_false, judge_verdict_eq_seed]
      split
      · exact h.mem_erase_iff j
      · next hseeded =>
        split
        · next hj =>
          rw [hj, h.order i, hget]
          simp [← hsilent, hseeded]
        · exact Iff.rfl
  | expired lines p =>
    obtain ⟨l, cnt, e, -, -, hs, -⟩ := expirePair_orig c.globals.lossLimit p ⟨lines, r⟩
    rw [e]
    exact h.keep hget rfl rfl rfl hs
  | silenced lines =>
    obtain ⟨l, cnt, e, -⟩ := fallSilent_orig c.globals.lossLimit ⟨lines, r⟩
    rw [e]
    refine h.replace hget rfl rfl rfl ?_ fun j => ?_
    · split
      · exact h.nodup_requeue
      · exact h.nodup
    · cases hl : r.learned with
      | true =>
        rw [if_pos rfl, h.mem_requeue_iff]
        split
        · exact iff_of_true trivial ⟨hl, rfl⟩
        · exact Iff.rfl
      | false =>
        rw [if_neg (by simp)]
        split
        · next hj =>
          rw [hj, h.order i, hget]
          refine iff_of_false ?_ fun hs => Bool.noConfusion (hl.symm.trans hs.1)
          rintro ⟨x, hx, hs, -⟩
          cases hx
          exact Bool.noConfusion (hl.symm.trans hs)
        · exact Iff.rfl
  | rebased => exact h.keep hget rfl rfl rfl Iff.rfl
  | reminded hl => exact h.keep hget rfl rfl rfl Iff.rfl
  | shared owners hl ho =>
    exact h.keep hget rfl (((learned_eq_false_iff _).2 ho).trans hl.symm) rfl Iff.rfl
  | reconfigured f ref hl hrise href hlead =>
    refine h.put (tabWf.lt h.canonical hget) haddr h.nodup (fun j => ?_)
      (h.leads_of_refFits href fun x hx => by rw [hget] at hx; cases hx; rfl) ?_
    · split
      · next hj =>
        rw [hj, h.order i, hget]
        refine iff_of_false ?_ fun hs => Bool.noConfusion (hl.symm.trans hs.1)
        rintro ⟨x, hx, hs, -⟩
        cases hx
        exact Bool.noConfusion (hl.symm.trans hs)
      · exact Iff.rfl
    · rcases hlead with rfl | hlead
      · exact .inr ⟨hl, rfl⟩
      · exact .inl (notLead_of_isLead hlead)
  | promoted m f ref hl hrise href =>
    have hconf : (r.promote m (f.clamped.settings ref 0) f.reseed).learned = false :=
      (learned_eq_false_iff _).2 (soleOwner_some m)
    refine h.put (tabWf.lt h.canonical hget) haddr (h.nodup.erase i) (fun j => ?_)
      (h.leads_of_refFits href fun x hx => by rw [hget] at hx; cases hx; rfl) (.inl (h.notLead hget (.inl hl)))
    rw [h.mem_erase_iff]
    simp [hconf]

/-- A record created in a free place: configured, or learned and judged, it is in no order. -/
theorem RegisterSound.create {t : List (Nat × Origin)} {q : List Nat} (h : RegisterSound t q) {i : Nat} {r : Origin}
    (hi : i < 256) (hfree : tabGet t i = none) (ha : ∀ e ∈ t, e.2.addr ≠ r.addr)
    (hs : ¬ (r.learned = true ∧ r.lane.state = .silent))
    (href : ∀ j, r.cfg.ref = some j →
      j ≠ i ∧ ∃ lead, tabGet t j = some lead ∧ lead.learned = false ∧ lead.cfg.ref = none) :
    RegisterSound (tabPut t i r) q := by
  refine h.put hi (fun j x hx e => absurd e (ha _ (mem_of_tabGet hx))) h.nodup (fun j => ?_) href
    (.inl (h.notLead_free hfree))
  split
  · next hj => exact iff_of_false (hj ▸ h.notMem_free hfree) hs
  · exact Iff.rfl

/-- A learned record whose creating copy is judged is not Silent and has no link. -/
theorem judgedLearn_shape (s : State) (k : Copy) (p : Profile) (a : Addr) (note : LearningNote) :
    (judgedOrigin s k (Origin.learn p a note)).addr = a ∧
    (judgedOrigin s k (Origin.learn p a note)).lane.state ≠ .silent ∧
    (judgedOrigin s k (Origin.learn p a note)).cfg.ref = none := by
  obtain ⟨ha, -, -, -, -, href⟩ := judgedOrigin_identity s k (Origin.learn p a note)
  obtain ⟨-, -, -, -, hn⟩ := judgedOrigin_awake s k (learn_judgeable p a note)
  exact ⟨ha, hn, href⟩

theorem RegisterSound.relaneAll {t : List (Nat × Origin)} {q : List Nat} (h : RegisterSound t q) (limit : Nat) :
    RegisterSound (tabMap (Origin.relane limit) t) q := by
  have hget {i : Nat} {x : Origin} : tabGet (tabMap (Origin.relane limit) t) i = some x ↔
      ∃ r, tabGet t i = some r ∧ x = r.relane limit := by
    rw [tabGet_tabMap, Option.map_eq_some_iff]
    simp only [eq_comm]
  refine ⟨tabWf_tabMap _ h.canonical, fun i j x y hx hy e => ?_, h.nodup, fun i => ?_, fun i x hx j hj => ?_⟩
  · obtain ⟨r, hr, rfl⟩ := hget.1 hx
    obtain ⟨r', hr', rfl⟩ := hget.1 hy
    simp only [Origin.relane_eq] at e
    exact h.addrs i j r r' hr hr' e
  · rw [h.order i]
    constructor
    · rintro ⟨r, hr, hl, hs⟩
      exact ⟨_, hget.2 ⟨r, hr, rfl⟩, by rw [Origin.relane_eq]; exact hl,
        by rw [Origin.relane_eq]; exact (LanePart.restated_eq_silent ..).2 hs⟩
    · rintro ⟨x, hx, hl, hs⟩
      obtain ⟨r, hr, rfl⟩ := hget.1 hx
      rw [Origin.relane_eq] at hl hs
      exact ⟨r, hr, hl, (LanePart.restated_eq_silent ..).1 hs⟩
  · obtain ⟨r, hr, rfl⟩ := hget.1 hx
    rw [Origin.relane_eq] at hj
    obtain ⟨hne, lead, hl, hc, hn⟩ := h.leads i r hr j hj
    exact ⟨hne, _, hget.2 ⟨lead, hl, rfl⟩, by rw [Origin.relane_eq]; exact hc, by rw [Origin.relane_eq]; exact hn⟩

theorem RegisterSound.move {c c' : Census} (h : RegisterSound c.origins c.order)
    (hw : ∀ e ∈ c.origins, e.2.judgeable) (hk : ∀ e ∈ c.origins, e.2.kindSound) (hm : Move c c') :
    RegisterSound c'.origins c'.order := by
  have hfree := tabGet_tabFree (tabWf.rising h.canonical)
  have hlt : c.origins.length < 256 → tabFree c.origins < 256 := tabFree_lt (tabWf.rising h.canonical)
  cases hm with
  | raised m k => exact h
  | marked i hi => exact h
  | grouped t ht => exact h
  | turned hr ht => exact h.turn hr (hw _ hr) ht
  | admitted s k a hs hroom ha =>
    obtain ⟨haddr, hn, href⟩ := judgedLearn_shape s k c.globals.profile a (.frameOn k.port)
    dsimp only
    rw [List.erase_of_not_mem (h.notMem_free hfree)]
    exact h.create (hlt hroom) hfree (fun e he => haddr.symm ▸ ha e he) (fun hs => hn hs.2)
      fun j hj => by rw [href] at hj; cases hj
  | evicted s k a head rest hs hq ha =>
    obtain ⟨haddr, hn, href⟩ := judgedLearn_shape s k c.globals.profile a (.frameOn k.port)
    obtain ⟨r, hr, hl, -⟩ := (h.order head).1 (hq ▸ List.mem_cons_self)
    have herase := h.erase (h.notLead hr (.inl hl))
    have hgone := tabGet_tabErase_same head (tabWf.rising h.canonical)
    dsimp only
    rw [List.erase_of_not_mem (herase.notMem_free hgone)]
    exact herase.create (tabWf.lt h.canonical hr) hgone (fun e he => haddr.symm ▸ ha e (mem_tabErase he))
      (fun hs => hn hs.2) fun j hj => by rw [href] at hj; cases hj
  | announced n a hroom ha =>
    have hnot := h.notMem_free hfree
    refine h.put (hlt hroom) (fun j x hx e => absurd e (ha _ (mem_of_tabGet hx))) ?_ (fun j => ?_) nofun
      (.inl (h.notLead_free hfree))
    · rw [← List.erase_of_not_mem hnot]
      exact h.nodup_requeue
    · rw [List.mem_append, List.mem_singleton]
      split
      · next hj => exact iff_of_true (.inr hj) ⟨rfl, rfl⟩
      · next hj => simp [hj]
  | configured m a f ref hroom ha hrise href =>
    have hconf : (Origin.fresh a (soleOwner m) (f.clamped.settings ref 0)).learned = false :=
      (learned_eq_false_iff _).2 (soleOwner_some m)
    exact h.create (hlt hroom) hfree ha (fun hs => by simp [hconf] at hs)
      (h.leads_of_refFits href fun x hx => by rw [hfree] at hx; cases hx)
  | removed hr hgone =>
    refine h.erase ?_
    rcases hgone with hf | hlead
    · refine h.notLead ((tabWf.get_iff h.canonical).2 hr) (.inl ?_)
      by_contra hl
      exact hf ((kindSound_of_configured (by simpa using hl)).1 (hk _ hr)).2.1
    · exact notLead_of_isLead hlead
  | regulated g v1 v2 v3 hrise =>
    dsimp only
    split
    · exact h.relaneAll _
    · exact h

/-! ## The links under one move -/

theorem linksSound_set {x : PerMaster ControlLink} {k : ControlLink} {m : Master} (h : ∀ m, (x.get m).sound)
    (hk : k.sound) : ∀ n, ((x.set m k).get n).sound := fun n => by
  rw [PerMaster.get_set_eq]
  split
  · exact hk
  · exact h n

theorem links_sound_move {c c' : Census} (hc : tabWf 256 c.origins = true) (h : ∀ m, (c.links.get m).sound)
    (hm : Move c c') : ∀ m, (c'.links.get m).sound := by
  cases hm with
  | raised m k => exact linksSound_set h ((h m).raise k)
  | marked i hi =>
    have hlt := (tabWf_iff.1 hc).2 i hi
    intro m
    cases m
    exacts [((h .m1).addChange hlt).raise .originChange, ((h .m2).addChange hlt).raise .originChange]
  | _ => exact h

/-! ## Everything together -/

/-- The tables, the stored sets and the links sound together. -/
structure CensusSound (c : Census) : Prop where
  register : RegisterSound c.origins c.order
  windows : ∀ e ∈ c.origins, e.2.judgeable
  kinds : ∀ e ∈ c.origins, e.2.kindSound
  groups : GroupsSound c.groups
  links : ∀ m, (c.links.get m).sound

theorem storedAll_and {p q : SetContent → Prop} {s : State} :
    storedAll (fun c => p c ∧ q c) s ↔ storedAll p s ∧ storedAll q s := by
  constructor
  · intro ⟨h1, h2, h3⟩
    exact ⟨⟨h1.1, h2.1, fun r hr => (h3 r hr).1⟩, ⟨h1.2, h2.2, fun r hr => (h3 r hr).2⟩⟩
  · intro ⟨⟨h1, h2, h3⟩, ⟨h1', h2', h3'⟩⟩
    exact ⟨⟨h1, h1'⟩, ⟨h2, h2'⟩, fun r hr => ⟨h3 r hr, h3' r hr⟩⟩

theorem storedAll_sound_iff {s : State} : storedAll SetContent.Sound s ↔
    storedAll SetContent.canonical s ∧ storedAll SetContent.addrsUnique s ∧ storedAll SetContent.owned s ∧
    storedAll SetContent.leadsSound s := by
  rw [← storedAll_and, ← storedAll_and, ← storedAll_and]
  rfl

theorem tablesSound_iff (s : State) : TablesSound s ↔ CensusSound s.census ∧ storedAll SetContent.Sound s := by
  rw [storedAll_sound_iff]
  constructor
  · intro ⟨⟨hcanon, hgroups, hstored⟩, ⟨haddrs, hgaddrs, hsaddrs⟩, hw, ⟨hk, howned⟩, ⟨hnodup, horder⟩,
      ⟨hleads, hsleads⟩, hlinks⟩
    exact ⟨⟨⟨hcanon, (addrsUnique_iff hcanon).1 haddrs, hnodup, horder, hleads⟩, hw, hk, ⟨hgroups, hgaddrs⟩,
      (linksSound_iff _ s rfl).1 hlinks⟩, hstored, hsaddrs, howned, hsleads⟩
  · intro ⟨⟨⟨hcanon, haddrs, hnodup, horder, hleads⟩, hw, hk, ⟨hgroups, hgaddrs⟩, hlinks⟩, hstored, hsaddrs, howned,
      hsleads⟩
    exact ⟨⟨hcanon, hgroups, hstored⟩, ⟨(addrsUnique_iff hcanon).2 haddrs, hgaddrs, hsaddrs⟩, hw, ⟨hk, howned⟩,
      ⟨hnodup, horder⟩, ⟨hleads, hsleads⟩, (linksSound_iff _ s rfl).2 hlinks⟩

theorem CensusSound.move {c c' : Census} (h : CensusSound c) (hm : Move c c') : CensusSound c' where
  register := h.register.move h.windows h.kinds hm
  windows := judgeable_invariant.move hm h.windows
  kinds := kindSound_invariant.move hm h.kinds
  groups := by
    have hg := h.groups
    cases hm with
    | grouped t ht => exact ht hg
    | _ => exact hg
  links := links_sound_move h.register.canonical h.links hm

theorem CensusSound.moves {s t : State} (h : CensusSound s.census) (hm : Moves s t) : CensusSound t.census := by
  unfold Moves at hm
  generalize t.census = c at hm
  induction hm with
  | refl => exact h
  | tail _ hm ih => exact ih.move hm

theorem CensusSound.linkStep {m : Master} {s t : State} (h : CensusSound s.census) (hl : LinkStep m s t) :
    CensusSound t.census := by
  have hpairs : PairsBounded s := fun e he => by
    obtain ⟨⟨-, hlen, -⟩, -⟩ := h.windows e he
    exact hlen
  refine ⟨?_, ?_, ?_, ?_, fun n => ?_⟩
  · show RegisterSound t.origins t.silentOrder
    rw [hl.origins, hl.order]
    exact h.register
  · show ∀ e ∈ t.origins, e.2.judgeable
    rw [hl.origins]
    exact h.windows
  · show ∀ e ∈ t.origins, e.2.kindSound
    rw [hl.origins]
    exact h.kinds
  · show GroupsSound t.groups
    rw [hl.groups]
    exact h.groups
  · show (t.links.get n).sound
    by_cases hn : n = m
    · exact hn ▸ hl.own hpairs (h.links m)
    · rw [eq_otherMaster_of_ne hn]
      exact hl.other.symm ▸ h.links (otherMaster m)

theorem CensusSound.loaded {c : SetContent} (hc : c.Sound) (s : State) : CensusSound (loadedCensus c s) where
  register := .load hc
  windows e he := by
    obtain ⟨x, -, hx⟩ := mem_tabMap he
    exact hx ▸ judgeable_invariant.load trivial
  kinds e he := by
    obtain ⟨x, hmem, hx⟩ := mem_tabMap he
    obtain ⟨-, -, howned, -⟩ := hc
    exact hx ▸ kindSound_invariant.load (howned _ hmem)
  groups := by
    obtain ⟨⟨-, hg⟩, ⟨-, ha⟩, -⟩ := hc
    exact ⟨hg, ha⟩
  links m := by cases m <;> exact ControlLink.reset_sound

/-- Settles O15: a step of a link keeps the tables and stores at most a sound snapshot; moves keep everything sound one
by one; and a sound set is loaded as sound tables. -/
theorem tablesAndLinksStaySound : Obligations.TablesAndLinksStaySound := by
  intro s t h hs
  refine step_preserves (I := TablesSound) (fun _ _ _ h => h) (fun c s t h he => ?_) h hs
  rw [tablesSound_iff] at h ⊢
  obtain ⟨hc, hstored⟩ := h
  rcases exec_cases he with ⟨m, hl⟩ | hm | ⟨set, u, hset, hu, hm⟩
  · exact ⟨hc.linkStep hl, hl.storedAll (snapshotOf_sound hc.register hc.groups) hstored⟩
  · exact ⟨hc.moves hm, hm.storedAll hstored⟩
  · have hloaded : CensusSound u.census := hu ▸ CensusSound.loaded (hset.holds factorySet_sound hstored) s
    exact ⟨hloaded.moves hm, hm.storedAll (storedAll_of_loaded hu hstored)⟩

end Sys2Proof.Machine
end

section
/-! SUPPORT. Removal, and the proxies of a roll-call (R49 to R52). -/

namespace Sys2Proof.Machine

/-! ## Removal (R49, R50) -/

/-- Settles O25: a removal erases the index, takes it out of the silent order and marks it, and a running forget timer
is what lets the expiry remove. -/
theorem forgetExpiryRemovesTheRecord : Obligations.ForgetExpiryRemovesTheRecord := by
  intro i r s hr told
  have hexec : exec (.forgetExpiry i) s = .next (if r.forget = none then s else removeOrigin i s) := by
    show Host.Outcome.next (forgetExpiryEffect i s) = _
    rw [forgetExpiryEffect, hr]
  rw [hexec]
  refine ⟨fun h => by rw [if_pos h], fun h => ⟨?_, fun hc => tabGet_tabErase_same i (tabWf.rising hc), fun k hk =>
    tabGet_tabErase_other s.origins hk.symm⟩⟩
  rw [if_neg h]
  rfl

/-! ## A creation on the links (R44, R104) -/

/-- A link told of the record created at an index of a table of some size: TABLE FULL when that was 255. -/
def ControlLink.toldNew (size i : Nat) (c : ControlLink) : ControlLink :=
  { c with
    changes := setInsert i c.changes,
    flags := (if size = 255 then c.flags ||| EventKind.tableFull.bit else c.flags) ||| EventKind.originChange.bit }

theorem markChange_toldFull (i : Nat) (s : State) : markChange i s.toldFull = { s with
    links := ⟨s.links.one.toldNew s.origins.length i, s.links.two.toldNew s.origins.length i⟩ } := by
  by_cases h : s.origins.length = 255
  · have h' : s.origins.length + 1 = Config.maxOrigins := by rw [h]; rfl
    rw [State.toldFull, if_pos h']
    simp only [ControlLink.toldNew, if_pos h]
    rfl
  · have h' : ¬ s.origins.length + 1 = Config.maxOrigins := fun e => h (Nat.succ.inj e)
    rw [State.toldFull, if_neg h']
    simp only [ControlLink.toldNew, if_neg h]
    rfl

theorem createSilent_eq (r : Origin) (s : State) : createSilent r s = { s with
    origins := tabPut s.origins (tabFree s.origins) r,
    links := ⟨s.links.one.toldNew s.origins.length (tabFree s.origins),
      s.links.two.toldNew s.origins.length (tabFree s.origins)⟩ } := by
  have hput : (markChange (tabFree s.origins) s.toldFull).setOrigin (tabFree s.origins) r = { s with
      origins := tabPut s.origins (tabFree s.origins) r,
      links := ⟨s.links.one.toldNew s.origins.length (tabFree s.origins),
        s.links.two.toldNew s.origins.length (tabFree s.origins)⟩ } := by
    rw [markChange_toldFull]
    rfl
  rw [createSilent, placeOrigin_eq]
  exact hput

/-- Every index below the lowest free one is taken (R34). -/
theorem tabGet_of_lt_tabFree {α : Type} {t : List (Nat × α)} (h : risingFrom 0 (tabKeys t) = true) {k : Nat}
    (hk : k < tabFree t) : tabGet t k ≠ none := by
  obtain ⟨-, -, -, htaken⟩ := tabFreeFrom_spec h
  obtain ⟨⟨_, x⟩, hx, rfl⟩ := List.mem_map.1 (htaken k (Nat.zero_le k) hk)
  rw [tabGet_of_mem h hx]
  exact Option.some_ne_none x

/-- The baseline of a learned record's pipeline is 0 in every mode: the learned profile has no manual baseline (R36). -/
theorem fresh_learnedSettings (p : Profile) :
    Pipeline.fresh (learnedSettings p) = ⟨false, 0, 0, 0, 0, .neither, .steady, .steady, 0, 0, none⟩ := by
  rw [Pipeline.fresh, learnedSettings, ite_self]

theorem learn_eq (p : Profile) (a : Addr) (note : LearningNote) : Origin.learn p a note = {
    addr := a, owners := ⟨false, false⟩, forgetTime := some p.forget, note := some note, cfg := learnedSettings p,
    win := ⟨false, 0, 0, [], 0⟩, lane := ⟨⟨0, 0⟩, .silent, ⟨none, none⟩, none⟩,
    pipe := ⟨false, 0, 0, 0, 0, .neither, .steady, .steady, 0, 0, none⟩, notif := ⟨.steady, .neither, .silent⟩,
    cnt := .zero, silence := none, forget := some p.forget } := by
  rw [Origin.learn, Origin.fresh, fresh_learnedSettings]
  rfl

/-! ## The rows for one proxy (R51, R52) -/

section
variable {n : Nat} {l : Lane} {a : Addr} {s : State}

theorem takeProxy_of_learned {i : Nat} {r : Origin} (hf : findOrigin s a = some (i, r)) (hl : r.learned = true) :
    takeProxy n l a s = s.setOrigin i { r with forget := r.forgetTime } := by
  rw [takeProxy, hf]
  exact if_pos hl

theorem takeProxy_of_configured {i : Nat} {r : Origin} (hf : findOrigin s a = some (i, r)) (hl : ¬ r.learned = true) :
    takeProxy n l a s = s := by
  rw [takeProxy, hf]
  exact if_neg hl

theorem takeProxy_of_excluded (hf : findOrigin s a = none) (ha : ownAddress s a = true ∨ groupBit a = true) :
    takeProxy n l a s = s := by
  rw [takeProxy, hf]
  exact if_pos ha

theorem takeProxy_of_noRoom (hf : findOrigin s a = none) (ha : ¬ (ownAddress s a = true ∨ groupBit a = true))
    (hr : s.globals.learning = false ∨ tableFull s = true) :
    takeProxy n l a s = s.countLine l fun c => { c with proxySkipped := c.proxySkipped + 1 } := by
  rw [takeProxy, hf]
  exact (if_neg ha).trans (if_pos hr)

theorem takeProxy_of_room (hf : findOrigin s a = none) (ha : ¬ (ownAddress s a = true ∨ groupBit a = true))
    (hr : ¬ (s.globals.learning = false ∨ tableFull s = true)) :
    takeProxy n l a s = { s with
      origins := tabPut s.origins (tabFree s.origins) (Origin.learn s.globals.profile a (.rollCallOf n)),
      silentOrder := s.silentOrder ++ [tabFree s.origins],
      links := ⟨s.links.one.toldNew s.origins.length (tabFree s.origins),
        s.links.two.toldNew s.origins.length (tabFree s.origins)⟩ } := by
  rw [takeProxy, hf]
  refine (if_neg ha).trans ((if_neg hr).trans ?_)
  rw [createSilent_eq]

end

theorem tableFull_iff (s : State) : tableFull s = true ↔ 256 ≤ s.origins.length := decide_eq_true_iff

theorem excluded_iff (s : State) (a : Addr) : ownAddress s a = true ∨ groupBit a = true ↔
    (a = s.station ∨ s.bays.one.station = some a ∨ s.bays.two.station = some a) ∨ groupBit a = true := by
  rw [ownAddress_iff]

theorem not_excluded {s : State} {a : Addr}
    (hown : ¬ (a = s.station ∨ s.bays.one.station = some a ∨ s.bays.two.station = some a)) (hg : groupBit a = false) :
    ¬ (ownAddress s a = true ∨ groupBit a = true) := by
  rw [excluded_iff, hg]
  exact not_or.2 ⟨hown, Bool.false_ne_true⟩

/-- Settles O28: row by row. -/
theorem proxiesAreTakenByTheirRows : Obligations.ProxiesAreTakenByTheirRows := by
  intro n l a s own full p
  refine ⟨fun i r hf ho => ?_, fun i r hf ho => ?_, fun hf ha => ?_, fun hf hown hg hr => ?_,
    fun hf hown hg hlearn hroom hc => ?_⟩
  · exact takeProxy_of_learned hf ((learned_iff r).2 ho)
  · exact takeProxy_of_configured hf fun hl => ho ((learned_iff r).1 hl)
  · exact takeProxy_of_excluded hf ((excluded_iff s a).2 ha)
  · exact takeProxy_of_noRoom hf (not_excluded hown hg) (hr.imp id (tableFull_iff s).2)
  · intro g r
    have hfree : ¬ (s.globals.learning = false ∨ tableFull s = true) :=
      not_or.2 ⟨by simp [hlearn], fun hfull => hroom ((tableFull_iff s).1 hfull)⟩
    have hrow := takeProxy_of_room (n := n) (l := l) hf (not_excluded hown hg) hfree
    refine ⟨tabFree s.origins, tabGet_tabFree (tabWf.rising hc), fun k => tabGet_of_lt_tabFree (tabWf.rising hc), ?_⟩
    intro told
    rw [hrow, learn_eq]
    exact ⟨rfl, tabGet_tabPut_same .., fun k hk => tabGet_tabPut_other _ _ hk.symm⟩

end Sys2Proof.Machine
end

section
/-! SUPPORT. The comparison of one record with what was last notified (R104 to R109): what it notifies, and what it
leaves of the state; and the silence expiry, with the accounts of each lane (R47, R72 to R74). -/

namespace Sys2Proof.Machine

/-! ## Held differences -/

theorem Level.high_iff (l : Level) : l.high = true ↔ l = .excess ∨ l = .gross := by
  cases l <;> decide

theorem LaneState.lossy_iff (l : LaneState) : l.lossy = true ↔ l = .loneA ∨ l = .loneB ∨ l = .fragmented := by
  cases l <;> decide

theorem LinePort.unavailable_iff (p : LinePort) : p.unavailable = true ↔ p.state = .down ∨ p.state = .settling := by
  simp only [LinePort.unavailable, Bool.or_eq_true, decide_eq_true_eq]

section
variable {s : State} {r : Origin}

theorem leadHolds_iff : leadHolds s.origins r = true ↔ LeadHolds s r := by
  unfold leadHolds LeadHolds originAt
  cases hj : r.cfg.ref with
  | none => simp
  | some j => cases hl : tabGet s.origins j <;> simp [hl, Level.high_iff]

theorem portHolds_iff : portHolds s r = true ↔ PortsHold s r := by
  unfold portHolds PortsHold availableLane
  simp only [Bool.and_eq_true, Bool.or_eq_true, decide_eq_true_eq, LaneState.lossy_iff, ← LinePort.unavailable_iff]
  constructor
  · rintro ⟨⟨haway, hlossy⟩, hlane⟩
    exact ⟨hlossy, _, _, fun h => if_pos h, fun h => if_neg h, fun h => if_pos h, fun h => if_neg h, hlane, haway⟩
  · rintro ⟨hlossy, x, y, hx, hx', hy, hy', hlane, haway⟩
    have ex : (if s.lines.a.unavailable = true then 0 else r.lane.miss.a) = x := by
      split
      · next h => exact (hx h).symm
      · next h => exact (hx' h).symm
    have ey : (if s.lines.b.unavailable = true then 0 else r.lane.miss.b) = y := by
      split
      · next h => exact (hy h).symm
      · next h => exact (hy' h).symm
    rw [ex, ey]
    exact ⟨⟨haway, hlossy⟩, hlane⟩

/-- What a notification gives is the one notification part that keeps held fields and takes the others (R104). -/
theorem unheld_iff (n : Notified) : Unheld s r n ↔ n = caughtUp s r := by
  unfold Unheld caughtUp
  rw [← leadHolds_iff, ← portHolds_iff]
  obtain ⟨level, dir, lane⟩ := n
  cases leadHolds s.origins r <;> cases portHolds s r <;> simp [and_assoc]

/-- Silence is never held by a port (R109). -/
theorem caughtUp_lane_of_silent (h : r.lane.state = .silent) : (caughtUp s r).lane = .silent := by
  simp [caughtUp, portHolds, h, LaneState.lossy]

end

/-! ## One comparison -/

section
variable {cause : Bool} {i : Nat} {r : Origin} {s : State}

theorem compareAt_of_free (h : originAt s i = none) : compareAt cause i s = s := by
  rw [compareAt, h]

theorem compareAt_of_taken (h : originAt s i = some r) : compareAt cause i s =
    if cause = true ∨ caughtUp s r ≠ r.notif then markChange i (s.setOrigin i { r with notif := caughtUp s r })
    else s := by
  rw [compareAt, h]

/-- A record after its comparison has caught up in every field that is not held. -/
theorem originAt_compareAt (h : originAt s i = some r) :
    originAt (compareAt cause i s) i = some { r with notif := caughtUp s r } := by
  rw [compareAt_of_taken h]
  split
  · exact tabGet_tabPut_same ..
  · next hno =>
    have hsame : caughtUp s r = r.notif := not_not.1 fun hne => hno (.inr hne)
    rw [h, hsame]

/-- Both masters are told of an index (R104). -/
def State.toldOf (s : State) (i : Nat) : Prop :=
  i ∈ s.links.one.changes ∧ i ∈ s.links.two.changes ∧ hasKind s.links.one.flags .originChange = true ∧
  hasKind s.links.two.flags .originChange = true

theorem markChange_toldOf (i : Nat) (s : State) : (markChange i s).toldOf i := by
  have hflag (e : EventSet) : hasKind (e ||| EventKind.originChange.bit) .originChange = true := by
    simp [hasKind_or_bit]
  exact ⟨mem_setInsert.2 (.inl rfl), mem_setInsert.2 (.inl rfl), hflag _, hflag _⟩

theorem compareAt_toldOf (h : originAt s i = some r) (hn : caughtUp s r ≠ r.notif) :
    (compareAt cause i s).toldOf i := by
  rw [compareAt_of_taken h, if_pos (.inr hn)]
  exact markChange_toldOf ..

section
variable {compares causes : Nat → Origin → Prop}

/-- An event after which no record finds a reason to notify. -/
theorem Compared.nobody
    (h : ∀ k x, ¬ (originAt s k = some x ∧ compares k x ∧ (causes k x ∨ ¬ Unheld s x x.notif))) :
    Compared compares causes s s := by
  have hno : ¬ ∃ k x, originAt s k = some x ∧ compares k x ∧ (causes k x ∨ ¬ Unheld s x x.notif) :=
    fun ⟨k, x, hx⟩ => h k x hx
  have htold (c : ControlLink) (k : Nat) : k ∈ c.changes ↔ k ∈ c.changes ∨
      ∃ x, originAt s k = some x ∧ compares k x ∧ (causes k x ∨ ¬ Unheld s x x.notif) :=
    ⟨.inl, fun hk => hk.resolve_right fun ⟨x, hx⟩ => h k x hx⟩
  exact ⟨fun _ => id, fun k x hx => ⟨x.notif, hx, fun hn => absurd hn (h k x), fun _ => rfl⟩,
    ⟨htold _, fun hn => absurd hn hno, fun _ => rfl, rfl⟩, ⟨htold _, fun hn => absurd hn hno, fun _ => rfl, rfl⟩, rfl⟩

/-- An event after which exactly the record at one index finds a reason to notify. -/
theorem Compared.alone (hr : originAt s i = some r) (hn : compares i r ∧ (causes i r ∨ ¬ Unheld s r r.notif))
    (honly : ∀ k x, originAt s k = some x ∧ compares k x ∧ (causes k x ∨ ¬ Unheld s x x.notif) → k = i) :
    Compared compares causes s (markChange i (s.setOrigin i { r with notif := caughtUp s r })) := by
  have hsome : ∃ k x, originAt s k = some x ∧ compares k x ∧ (causes k x ∨ ¬ Unheld s x x.notif) := ⟨i, r, hr, hn⟩
  have htold (c : ControlLink) (k : Nat) : k ∈ setInsert i c.changes ↔ k ∈ c.changes ∨
      ∃ x, originAt s k = some x ∧ compares k x ∧ (causes k x ∨ ¬ Unheld s x x.notif) := by
    rw [mem_setInsert, or_comm]
    refine or_congr_right ⟨?_, fun ⟨x, hx⟩ => honly k x hx⟩
    rintro rfl
    exact ⟨r, hr, hn⟩
  have hother {k : Nat} (hk : k ≠ i) :
      originAt (markChange i (s.setOrigin i { r with notif := caughtUp s r })) k = originAt s k :=
    tabGet_tabPut_other _ _ hk.symm
  refine ⟨fun k hk => ?_, fun k x hx => ?_, ⟨htold _, fun _ => rfl, fun hno => absurd hsome hno, rfl⟩,
    ⟨htold _, fun _ => rfl, fun hno => absurd hsome hno, rfl⟩, rfl⟩
  · rw [hother (fun e => by rw [e, hr] at hk; cases hk), hk]
  · by_cases hk : k = i
    · subst hk
      cases hr.symm.trans hx
      exact ⟨caughtUp s r, tabGet_tabPut_same .., fun _ => (unheld_iff _).2 rfl, fun hno => absurd ⟨hr, hn⟩ hno⟩
    · exact ⟨x.notif, (hother hk).trans hx, fun hfires => absurd (honly k x hfires) hk, fun _ => rfl⟩

end

/-- The comparison of one record, in an event that is no cause of notification for it (R105). -/
theorem compareAt_compared (i : Nat) (s : State) :
    Compared (fun k _ => k = i) (fun _ _ => False) s (compareAt false i s) := by
  cases hr : originAt s i with
  | none =>
    rw [compareAt_of_free hr]
    refine .nobody ?_
    rintro k x ⟨hx, rfl, -⟩
    cases hr.symm.trans hx
  | some r =>
    rw [compareAt_of_taken hr]
    split
    · next hfires =>
      have hne : caughtUp s r ≠ r.notif := hfires.resolve_left Bool.false_ne_true
      exact .alone hr ⟨rfl, .inr fun hu => hne ((unheld_iff _).1 hu).symm⟩ fun _ _ ⟨_, hk, _⟩ => hk
    · next hstays =>
      have hsame : caughtUp s r = r.notif := not_not.1 fun hne => hstays (.inr hne)
      refine .nobody ?_
      rintro k x ⟨hx, rfl, hn⟩
      cases hr.symm.trans hx
      exact (hn.resolve_left id) ((unheld_iff _).2 hsame.symm)

/-- An event that leaves the record's level has no members to compare (R110). -/
theorem endEvent_of_level (h : originAt s i = some r) : endEvent cause r.pipe.level i s = compareAt cause i s := by
  unfold endEvent
  dsimp only
  rw [originAt_compareAt h]
  refine if_neg ?_
  rintro ⟨-, hhigh, hlow⟩
  exact Bool.noConfusion (hhigh.symm.trans hlow)

theorem endEvent_of_put {t : List (Nat × Origin)} (h : s.origins = tabPut t i r) :
    endEvent cause r.pipe.level i s = compareAt cause i s :=
  endEvent_of_level (by rw [originAt, h, tabGet_tabPut_same])

@[simp] theorem compareAt_lines : (compareAt cause i s).lines = s.lines := by
  obtain ⟨o, k, e⟩ := compareAt_frame s cause i
  rw [e]

@[simp] theorem compareAt_silentOrder : (compareAt cause i s).silentOrder = s.silentOrder := by
  obtain ⟨o, k, e⟩ := compareAt_frame s cause i
  rw [e]

end

/-! ## The accounts of a lane (R72 to R74) -/

/-- The misses count of a lane. -/
def OriginCounts.missesOf (c : OriginCounts) : Lane → Count
  | .a => c.missA
  | .b => c.missB

/-- What `n` pairs closed missing lane `x` leave of that lane's accounts. -/
structure Closing.Charged (x : Lane) (n : Nat) (c c' : Closing) : Prop where
  line : c'.lines.get x = if (c.lines.get x).unavailable = true then
      { c.lines.get x with cnt :=
        { (c.lines.get x).cnt with missUnavail := (c.lines.get x).cnt.missUnavail + BitVec.ofNat 32 n } }
    else c.lines.get x
  run : c'.orig.lane.miss.get x = if (c.lines.get x).unavailable = true then c.orig.lane.miss.get x
    else max (c.orig.lane.miss.get x) (min 255 (c.orig.lane.miss.get x + n))
  count : c'.orig.cnt.missesOf x =
    c.orig.cnt.missesOf x + BitVec.ofNat 32 (if (c.lines.get x).unavailable = true then 0 else n)

namespace Closing.Charged
variable {x : Lane} {n m : Nat} {c c' c'' : Closing}

theorem unchanged (hl : c'.lines.get x = c.lines.get x) (hm : c'.orig.lane.miss.get x = c.orig.lane.miss.get x)
    (hc : c'.orig.cnt.missesOf x = c.orig.cnt.missesOf x) : Charged x 0 c c' where
  line := by
    rw [hl]
    split <;> simp
  run := by
    rw [hm]
    split <;> omega
  count := by rw [hc, ite_self, count_zero, add_zero]

theorem unavailable_eq (h : Charged x n c c') : (c'.lines.get x).unavailable = (c.lines.get x).unavailable := by
  rw [h.line]
  split <;> rfl

theorem trans (h : Charged x n c c') (h' : Charged x m c' c'') : Charged x (n + m) c c'' where
  line := by
    rw [h'.line, h.unavailable_eq, h.line]
    split
    · simp [BitVec.ofNat_add, BitVec.add_assoc]
    · rfl
  run := by
    rw [h'.run, h.unavailable_eq, h.run]
    split
    · rfl
    · omega
  count := by
    rw [h'.count, h.unavailable_eq, h.count]
    split
    · simp
    · rw [BitVec.ofNat_add, BitVec.add_assoc]

end Closing.Charged

theorem missRise_eq (n : Nat) : missRise n = max n (min 255 (n + 1)) := by
  unfold missRise
  split <;> omega

theorem OriginCounts.missesOf_miss (x y : Lane) (c : OriginCounts) :
    (c.miss y).missesOf x = c.missesOf x + if x = y then 1 else 0 := by
  cases x <;> cases y <;> simp [OriginCounts.miss, OriginCounts.missesOf]

/-- How many of some pairs wait for a lane. -/
def missedOf (x : Lane) (ps : List OpenPair) : Nat := (ps.filter fun p => decide (p.first ≠ x)).length

theorem ne_iff_eq_otherLane {p x : Lane} : p ≠ x ↔ x = otherLane p := by
  cases p <;> cases x <;> decide

theorem missedOf_cons (x : Lane) (p : OpenPair) (ps : List OpenPair) :
    missedOf x (p :: ps) = (if x = otherLane p.first then 1 else 0) + missedOf x ps := by
  unfold missedOf
  rw [List.filter_cons]
  simp only [decide_eq_true_eq, ne_iff_eq_otherLane]
  split
  · rw [List.length_cons, Nat.add_comm]
  · rw [Nat.zero_add]

theorem closeMissing_charged (limit : Nat) (p : OpenPair) (c : Closing) (x : Lane) :
    Closing.Charged x (if x = otherLane p.first then 1 else 0) c (c.closeMissing limit p) := by
  unfold Closing.closeMissing
  dsimp only
  by_cases hx : x = otherLane p.first
  · rw [if_pos hx, ← hx]
    split
    · next hu => exact ⟨by simp [hu], by simp [hu], by simp [hu]⟩
    · next hu =>
      rw [Origin.chargeMiss_eq]
      exact ⟨by simp [hu], by simp [hu, missRise_eq], by simp [hu, OriginCounts.missesOf_miss]⟩
  · rw [if_neg hx]
    split
    · exact .unchanged ((PerLane.get_set_eq ..).trans (if_neg hx)) rfl rfl
    · rw [Origin.chargeMiss_eq]
      exact .unchanged rfl ((PerLane.get_set_eq ..).trans (if_neg hx))
        (by rw [OriginCounts.missesOf_miss, if_neg hx, add_zero])

theorem closeAll_charged (limit : Nat) (x : Lane) : ∀ (ps : List OpenPair) (c : Closing),
    Closing.Charged x (missedOf x ps) c (Closing.closeAll limit ps c)
  | [], _ => .unchanged rfl rfl rfl
  | p :: ps, c => by
    rw [missedOf_cons]
    exact (closeMissing_charged limit p c x).trans (closeAll_charged limit x ps _)

/-- Closings change no count of the record but its two misses. -/
theorem closeAll_cnt (limit : Nat) : ∀ (ps : List OpenPair) (c : Closing),
    (Closing.closeAll limit ps c).orig.cnt =
      { c.orig.cnt with missA := (Closing.closeAll limit ps c).orig.cnt.missA,
                        missB := (Closing.closeAll limit ps c).orig.cnt.missB }
  | [], _ => rfl
  | p :: ps, c => by
    have hone : ∃ m n, (c.closeMissing limit p).orig.cnt = { c.orig.cnt with missA := m, missB := n } := by
      unfold Closing.closeMissing
      dsimp only
      split
      · exact ⟨_, _, rfl⟩
      · rw [Origin.chargeMiss_eq]
        cases otherLane p.first <;> exact ⟨_, _, rfl⟩
    obtain ⟨m, n, e⟩ := hone
    have ih := closeAll_cnt limit ps (c.closeMissing limit p)
    rw [e] at ih
    exact ih

/-- A record that falls Silent, with the accounts of both lanes (R47). -/
theorem fallSilent_charged (limit : Nat) (lines : PerLane LinePort) (r : Origin) :
    let c := Closing.fallSilent limit ⟨lines, r⟩
    c.orig = { r with
      win := { r.win with seeded := false, delivered := 0, pairs := [], staleRun := 0 },
      lane := { r.lane with state := .silent, miss := c.orig.lane.miss },
      cnt := { r.cnt with missA := c.orig.cnt.missA, missB := c.orig.cnt.missB }, silence := none } ∧
    ∀ x, Closing.Charged x (missedOf x r.win.pairs) ⟨lines, r⟩ c := by
  refine ⟨?_, fun x => ?_⟩
  · obtain ⟨l, cnt, e, hlast, hframe, -⟩ := closeAll_orig limit r.win.pairs ⟨lines, r⟩
    have hcnt := closeAll_cnt limit r.win.pairs ⟨lines, r⟩
    rw [e] at hcnt
    obtain ⟨miss, state, last, lastFrame⟩ := l
    cases hlast
    cases hframe
    simp only [Closing.fallSilent, e]
    rw [← hcnt]
  · obtain ⟨hline, hrun, hcount⟩ := closeAll_charged limit x r.win.pairs ⟨lines, r⟩
    exact ⟨hline, hrun, hcount⟩

theorem exec_silenceExpiry {i : Nat} {r : Origin} {s : State} (hr : originAt s i = some r) :
    exec (.silenceExpiry i) s = .next (if r.silence = none then s else compareAt false i { s with
      lines := (Closing.fallSilent s.globals.lossLimit ⟨s.lines, r⟩).lines,
      silentOrder := if r.learned then s.silentOrder.erase i ++ [i] else s.silentOrder,
      origins := tabPut s.origins i (Closing.fallSilent s.globals.lossLimit ⟨s.lines, r⟩).orig }) := by
  show Host.Outcome.next (silenceExpiryEffect i s) = _
  rw [silenceExpiryEffect, hr]
  obtain ⟨l, cnt, e, -⟩ := fallSilent_orig s.globals.lossLimit ⟨s.lines, r⟩
  have hpipe : (Closing.fallSilent s.globals.lossLimit ⟨s.lines, r⟩).orig.pipe = r.pipe := by rw [e]
  dsimp only
  rw [← hpipe, endEvent_of_put rfl]

/-- Settles O24: the accounts by induction over the pairs, and then the comparison of one record whose level stayed. -/
theorem silenceExpiryMakesTheRecordSilent : Obligations.SilenceExpiryMakesTheRecordSilent := by
  intro i r s hr
  rw [exec_silenceExpiry hr]
  refine ⟨fun h => by rw [if_pos h], fun h => ?_⟩
  intro missed away charged
  rw [if_neg h]
  obtain ⟨horig, hcharged⟩ := fallSilent_charged s.globals.lossLimit s.lines r
  generalize Closing.fallSilent s.globals.lossLimit ⟨s.lines, r⟩ = c at horig hcharged ⊢
  have haway (x : Lane) : (s.lines.get x).unavailable = true ↔ away x := LinePort.unavailable_iff _
  generalize hv : { s with
    lines := c.lines, silentOrder := if r.learned then s.silentOrder.erase i ++ [i] else s.silentOrder,
    origins := tabPut s.origins i c.orig : State } = v
  have hget : originAt v i = some c.orig := by
    rw [← hv]
    exact tabGet_tabPut_same ..
  have hnotif : c.orig.notif = r.notif := by rw [horig]
  have hlane : (caughtUp v c.orig).lane = .silent := caughtUp_lane_of_silent (by rw [horig])
  have hcompared := compareAt_compared i v
  have hcount (x : Lane) : c.orig.cnt.missesOf x = r.cnt.missesOf x + charged x := by
    rw [(hcharged x).count]
    simp only [haway]
    rfl
  refine ⟨compareAt false i v, _, rfl, originAt_compareAt hget, ?_, fun x => ⟨?_, ?_⟩, hlane, ?_, fun hn => ?_,
    fun _ => ?_⟩
  · rw [← show c.orig.cnt.missA = r.cnt.missA + charged .a from hcount .a,
      ← show c.orig.cnt.missB = r.cnt.missB + charged .b from hcount .b]
    exact congrArg (fun o : Origin => { o with notif := caughtUp v c.orig }) horig
  · have hline := (hcharged x).line
    simp only [haway] at hline
    rw [compareAt_lines, ← hv]
    exact hline
  · have hrun := (hcharged x).run
    simp only [haway] at hrun
    exact hrun
  · rw [compareAt_silentOrder, ← hv]
  · refine compareAt_toldOf hget fun e => hn ?_
    rw [← hnotif, ← e, hlane]
  · have hback : { c.orig with notif := r.notif } = c.orig := by rw [← hnotif]
    dsimp only
    rw [compareAt_lines, compareAt_silentOrder, hback]
    rw [← hv] at hcompared ⊢
    exact hcompared

end Sys2Proof.Machine
end

section
/-! SUPPORT. Delivery of a frame taken in on a line port (R135 to R138), and the hand-on of an accepted or overflow
frame (R9, R11 to R13, R142). -/

namespace Sys2Proof.Machine

/-! ## One offer, and the offers to some ports (R137, R138) -/

section
variable (m : Master) (f : Frame) (s : State)

theorem offered_eq : (s.bays.get m).offered s.alert (s.bayCfg.get m).shedding f = match bayOutcome m f.cls s with
    | .linkDown => s.bays.get m
    | .shed => { s.bays.get m with cnt := { (s.bays.get m).cnt with shedBay := (s.bays.get m).cnt.shedBay + 1 } }
    | .full => { s.bays.get m with cnt := (s.bays.get m).cnt.drop f.cls.queue }
    | .enqueued => (s.bays.get m).enqueue f := by
  unfold BayPort.offered bayOutcome
  rw [BayCounts.drop_queue_eq, BayPort.enqueue_eq]
  by_cases hup : (s.bays.get m).up = false
  · rw [if_pos hup, if_pos hup]
  · rw [if_neg hup, if_neg hup]
    by_cases hshed : f.cls = .bulk ∧ s.alert = .alert ∧ (s.bayCfg.get m).shedding = true
    · rw [if_pos hshed, if_pos hshed]
    · rw [if_neg hshed, if_neg hshed]
      simp only [BayPort.hasRoom_iff]
      by_cases hb : f.cls = .bulk
      · simp only [if_pos hb]
        split <;> rfl
      · simp only [if_neg hb]
        split <;> rfl

theorem drops_iff :
    (s.bays.get m).drops s.alert (s.bayCfg.get m).shedding f ↔ bayOutcome m f.cls s = .full := by
  rw [bayOutcome_eq_full_iff, BayPort.hasRoom_iff, BayPort.drops]
  refine and_congr_right fun _ => and_congr_right fun _ => ?_
  split <;> omega

theorem offerBay_bays : (offerBay m f s).bays =
    s.bays.set m ((s.bays.get m).offered s.alert (s.bayCfg.get m).shedding f) := by
  rw [offered_eq, offerBay]
  cases bayOutcome m f.cls s with
  | linkDown => exact (PerMaster.set_get ..).symm
  | shed => rfl
  | full => rfl
  | enqueued => rfl

/-- The links told of a dropped frame. -/
def State.droppedLinks (s : State) : PerMaster ControlLink :=
  ⟨s.links.one.raise .queueDrop, s.links.two.raise .queueDrop⟩

theorem ControlLink.raise_raise (k : EventKind) (c : ControlLink) : (c.raise k).raise k = c.raise k := by
  simp only [ControlLink.raise, BitVec.or_assoc, BitVec.or_self]

theorem offerBay_links : (offerBay m f s).links =
    if bayOutcome m f.cls s = .full then s.droppedLinks else s.links := by
  rw [offerBay]
  cases bayOutcome m f.cls s <;> rfl

end

/-- The state after an offer that a port gets or not. -/
def State.offeredIf (b : Bool) (m : Master) (f : Frame) (s : State) : State := if b then offerBay m f s else s

section
variable (b : Bool) (m : Master) (f : Frame) (s : State)

theorem offeredIf_frame : ∃ p k, s.offeredIf b m f = { s with bays := p, links := k } := by
  unfold State.offeredIf
  split
  · exact offerBay_frame s m f
  · exact ⟨_, _, rfl⟩

theorem offeredIf_own : (s.offeredIf b m f).bays.get m =
    if b then (s.bays.get m).offered s.alert (s.bayCfg.get m).shedding f else s.bays.get m := by
  cases b with
  | true => exact (congrArg (PerMaster.get · m) (offerBay_bays m f s)).trans (PerMaster.get_set ..)
  | false => rfl

theorem offeredIf_other : (s.offeredIf b m f).bays.get (otherMaster m) = s.bays.get (otherMaster m) := by
  cases b with
  | true => exact (congrArg (PerMaster.get · (otherMaster m)) (offerBay_bays m f s)).trans (PerMaster.get_set_other ..)
  | false => rfl

theorem offeredIf_links : (s.offeredIf b m f).links =
    if b = true ∧ bayOutcome m f.cls s = .full then s.droppedLinks else s.links := by
  cases b with
  | true => simpa [State.offeredIf] using offerBay_links m f s
  | false => rfl

/-- An offer to one port leaves what the other port decides by. -/
theorem bayOutcome_offeredIf (cls : TrafficClass) :
    bayOutcome (otherMaster m) cls (s.offeredIf b m f) = bayOutcome (otherMaster m) cls s := by
  have hbay := offeredIf_other b m f s
  obtain ⟨p, k, e⟩ := offeredIf_frame b m f s
  exact bayOutcome_congr hbay (by rw [e]) fun _ => by rw [e]

end

section
variable (pick : Master → Bool) (f : Frame) (s : State)

theorem offerWhere_eq : offerWhere pick f s = (s.offeredIf (pick .m1) .m1 f).offeredIf (pick .m2) .m2 f := rfl

theorem offerWhere_bays (m : Master) : (offerWhere pick f s).bays.get m =
    if pick m then (s.bays.get m).offered s.alert (s.bayCfg.get m).shedding f else s.bays.get m := by
  rw [offerWhere_eq]
  have hother : (s.offeredIf (pick .m1) .m1 f).bays.get .m2 = s.bays.get .m2 := offeredIf_other (pick .m1) .m1 f s
  have hown := offeredIf_own (pick .m1) .m1 f s
  cases m with
  | m1 => exact (offeredIf_other (pick .m2) .m2 f _).trans hown
  | m2 =>
    obtain ⟨p, k, e⟩ := offeredIf_frame (pick .m1) .m1 f s
    rw [offeredIf_own, hother, e]

theorem offerWhere_links :
    ((∃ m, pick m = true ∧ bayOutcome m f.cls s = .full) → (offerWhere pick f s).links = s.droppedLinks) ∧
    ((¬ ∃ m, pick m = true ∧ bayOutcome m f.cls s = .full) → (offerWhere pick f s).links = s.links) := by
  have htwice : (s.offeredIf (pick .m1) .m1 f).droppedLinks = s.droppedLinks := by
    rw [State.droppedLinks, offeredIf_links]
    split
    · simp only [State.droppedLinks, ControlLink.raise_raise]
    · rfl
  have hout : bayOutcome .m2 f.cls (s.offeredIf (pick .m1) .m1 f) = bayOutcome .m2 f.cls s :=
    bayOutcome_offeredIf (pick .m1) .m1 f s f.cls
  rw [offerWhere_eq, offeredIf_links, htwice, hout, offeredIf_links]
  refine ⟨fun ⟨m, hm⟩ => ?_, fun hno => ?_⟩
  · cases m with
    | m1 => rw [if_pos hm, ite_self]
    | m2 => rw [if_pos hm]
  · rw [if_neg fun h => hno ⟨.m2, h⟩, if_neg fun h => hno ⟨.m1, h⟩]

end

/-! ## The ports a destination names (R135, R136) -/

section
variable {s : State} {dest : Addr}

theorem groupBit_of_isGroup (h : isGroup dest = true) : groupBit dest = true := by
  simp only [isGroup, Bool.and_eq_true] at h
  exact h.1

theorem ne_broadcast_of_isGroup (h : isGroup dest = true) : dest ≠ 0xFFFFFFFFFFFF#48 := by
  rintro rfl
  exact absurd h (by decide)

theorem targeted_broadcast (m : Master) : Targeted s Config.broadcast m := .inl rfl

theorem targeted_group {i : Nat} {g : Group} (hg : isGroup dest = true) (hf : findGroup s.groups dest = some (i, g))
    (m : Master) : Targeted s dest m ↔ g.members.get m = true := by
  simp [Targeted, ne_broadcast_of_isGroup hg, hg, hf, groupBit_of_isGroup hg]

theorem targeted_unknown (hg : isGroup dest = true) (hf : findGroup s.groups dest = none) (m : Master) :
    Targeted s dest m ↔ (s.bayCfg.get m).policy = .deliver := by
  simp [Targeted, ne_broadcast_of_isGroup hg, hg, hf, groupBit_of_isGroup hg]

theorem targeted_individual (hb : dest ≠ Config.broadcast) (hg : groupBit dest = false) (m : Master) :
    Targeted s dest m ↔ (s.bays.get m).station = some dest := by
  have hnot : isGroup dest = false := (isGroup_eq_false_iff hb).2 hg
  have hb' : dest ≠ 0xFFFFFFFFFFFF#48 := hb
  simp [Targeted, hb', hg, hnot]

end

/-! ## Delivery (R135 to R138) -/

/-- Delivery by offers to the targeted ports, from a state in which at most the ports passed over have counted. -/
theorem deliveredAs_offerWhere {l : Lane} {dest : Addr} {f : Frame} {v w : State} {pick : Master → Bool}
    (hpick : ∀ m, pick m = true ↔ Targeted v dest m)
    (hhere : ¬ (groupBit dest = false ∧ ∀ m, (v.bays.get m).station ≠ some dest))
    (hw : ∃ b, w = { v with bays := b }) (hin : ∀ m, Targeted v dest m → w.bays.get m = v.bays.get m)
    (hout : ∀ m, ¬ Targeted v dest m → w.bays.get m =
      if isGroup dest = true ∧ findGroup v.groups dest = none then { v.bays.get m with
        cnt := { (v.bays.get m).cnt with unknownDropped := (v.bays.get m).cnt.unknownDropped + 1 } }
      else v.bays.get m) :
    DeliveredAs l dest f v (offerWhere pick f w) := by
  obtain ⟨b, rfl⟩ := hw
  have hbays := offerWhere_bays pick f { v with bays := b }
  have hlinks := offerWhere_links pick f { v with bays := b }
  have hframe := offerWhere_frame { v with bays := b } pick f
  have hfull (m : Master) (ht : Targeted v dest m) : bayOutcome m f.cls { v with bays := b } = .full ↔
      (v.bays.get m).drops v.alert (v.bayCfg.get m).shedding f := by
    rw [drops_iff, bayOutcome_congr (s := v) (t := { v with bays := b }) (hin m ht) rfl fun _ => rfl]
  have hdrop : (∃ m, pick m = true ∧ bayOutcome m f.cls { v with bays := b } = .full) ↔
      ∃ m, Targeted v dest m ∧ (v.bays.get m).drops v.alert (v.bayCfg.get m).shedding f :=
    exists_congr fun m => by
      rw [hpick]
      exact and_congr_right (hfull m)
  generalize offerWhere pick f { v with bays := b } = u at hbays hlinks hframe ⊢
  rw [hdrop] at hlinks
  obtain ⟨htold, hsame⟩ := hlinks
  obtain ⟨b', k', rfl⟩ := hframe
  refine ⟨fun m => ⟨fun ht => ?_, fun ht hu => ?_, fun ht hu => ?_⟩, fun hn => absurd hn hhere, fun _ => rfl, htold,
    hsame, rfl⟩
  · rw [hbays, if_pos ((hpick m).2 ht)]
    exact congrArg (BayPort.offered _ _ _) (hin m ht)
  · rw [hbays, if_neg (mt (hpick m).1 ht)]
    exact (hout m ht).trans (if_pos hu)
  · rw [hbays, if_neg (mt (hpick m).1 ht)]
    exact (hout m ht).trans (if_neg hu)

theorem countUnknown_bays (m : Master) (s : State) : (countUnknown m s).bays =
    s.bays.set m (if (s.bayCfg.get m).policy = .deliver then s.bays.get m else { s.bays.get m with
      cnt := { (s.bays.get m).cnt with unknownDropped := (s.bays.get m).cnt.unknownDropped + 1 } }) := by
  unfold countUnknown
  cases (s.bayCfg.get m).policy with
  | deliver => exact (PerMaster.set_get ..).symm
  | drop => rfl

/-- Both ports pass a frame to an unknown group by: each whose policy is drop counts it (R135). -/
theorem countUnknown_both (s : State) (m : Master) : (countUnknown .m2 (countUnknown .m1 s)).bays.get m =
    if (s.bayCfg.get m).policy = .deliver then s.bays.get m else { s.bays.get m with
      cnt := { (s.bays.get m).cnt with unknownDropped := (s.bays.get m).cnt.unknownDropped + 1 } } := by
  have hfirst := countUnknown_bays .m1 s
  obtain ⟨b, e⟩ := countUnknown_frame s .m1
  rw [countUnknown_bays, hfirst, e]
  cases m <;> rfl

theorem deliver_deliveredAs (l : Lane) (dest : Addr) (f : Frame) (v : State) :
    DeliveredAs l dest f v (deliver l dest f v) := by
  unfold deliver
  split
  · next hb =>
    subst hb
    have hnone : ¬ isGroup Config.broadcast = true := by decide
    exact deliveredAs_offerWhere (fun m => iff_of_true rfl (targeted_broadcast m))
      (fun hn => absurd hn.1 (by decide)) ⟨_, rfl⟩ (fun _ _ => rfl) fun m hm => absurd (targeted_broadcast m) hm
  · next hb =>
    split
    · next hg =>
      have hhere : ¬ (groupBit dest = false ∧ ∀ m, (v.bays.get m).station ≠ some dest) := fun hn =>
        Bool.noConfusion (hn.1.symm.trans (groupBit_of_isGroup hg))
      split
      · next i g hf =>
        exact deliveredAs_offerWhere (fun m => (targeted_group hg hf m).symm) hhere ⟨_, rfl⟩ (fun _ _ => rfl)
          fun m _ => (if_neg fun hn => by simp [hf] at hn).symm
      · next hf =>
        have hboth := countUnknown_both v
        refine deliveredAs_offerWhere (fun m => by rw [targeted_unknown hg hf, decide_eq_true_iff]) hhere ?_
          (fun m hm => (hboth m).trans (if_pos ((targeted_unknown hg hf m).1 hm)))
          fun m hm => (hboth m).trans ((if_neg (mt (targeted_unknown hg hf m).2 hm)).trans (if_pos ⟨hg, hf⟩).symm)
        obtain ⟨b, e⟩ := countUnknown_frame v .m1
        rw [e]
        obtain ⟨b', e'⟩ := countUnknown_frame { v with bays := b } .m2
        exact ⟨b', e'⟩
    · next hg =>
      have hind : groupBit dest = false := (isGroup_eq_false_iff hb).1 (Bool.eq_false_iff.2 hg)
      have hunknown : ¬ (isGroup dest = true ∧ findGroup v.groups dest = none) := fun hn => hg hn.1
      split
      · next hhold =>
        have hhere : ¬ (groupBit dest = false ∧ ∀ m, (v.bays.get m).station ≠ some dest) := by
          rintro ⟨-, hno⟩
          simp [bayHolds, hno] at hhold
        exact deliveredAs_offerWhere
          (fun m => by rw [targeted_individual hb hind, bayHolds, decide_eq_true_iff]) hhere ⟨_, rfl⟩ (fun _ _ => rfl)
          fun m _ => (if_neg hunknown).symm
      · next hhold =>
        have hno (m : Master) : (v.bays.get m).station ≠ some dest := by
          simp only [bayHolds, Bool.or_eq_true, decide_eq_true_eq, not_or] at hhold
          cases m with
          | m1 => exact hhold.1
          | m2 => exact hhold.2
        have htarget (m : Master) : ¬ Targeted v dest m := mt (targeted_individual hb hind m).1 (hno m)
        refine ⟨fun m => ⟨fun ht => absurd ht (htarget m), fun _ hu => absurd hu hunknown, fun _ _ => rfl⟩,
          fun _ => rfl, fun hn => absurd ⟨hind, hno⟩ hn, ?_, fun _ => rfl, rfl⟩
        rintro ⟨m, ht, -⟩
        exact absurd ht (htarget m)

/-! ## Hand-on -/

theorem countMalformed_malformedAt (l : Lane) (s : State) : MalformedAt l s (countMalformed l s) := rfl

theorem takeProxies_eq_foldl (n : Nat) (l : Lane) : ∀ (as : List Addr) (s : State),
    takeProxies n l as s = as.foldl (fun z a => takeProxy n l a z) s
  | [], _ => rfl
  | _ :: as, _ => takeProxies_eq_foldl n l as _

theorem handOn_handedOn (announcer : Option Nat) (l : Lane) (t : Tagged) (v : State) :
    HandedOn announcer l t v (handOn announcer l t v) := by
  unfold handOn
  dsimp only
  by_cases hr : t.cls = .rollCall
  · have hno : t.cls ≠ .trip := fun e => nomatch hr.symm.trans e
    rw [if_pos hr, if_neg hno]
    unfold rollCallUnit
    refine ⟨fun h => absurd hr h, fun h => absurd hr h, fun _ hp => ?_, fun _ hp => ⟨?_, ?_⟩⟩
    · rw [if_neg (mt (rollCallWellFormed_iff t.body).1 hp)]
      exact countMalformed_malformedAt l v
    · rintro rfl
      exact if_pos ((rollCallWellFormed_iff t.body).2 hp)
    · rintro i rfl
      rw [← takeProxies_eq_foldl]
      exact if_pos ((rollCallWellFormed_iff t.body).2 hp)
  · rw [if_neg hr]
    refine ⟨fun _ hd => ?_, fun _ hd => ?_, fun h => absurd h hr, fun h => absurd h hr⟩
    · rw [if_neg (show ¬ t.dest = Config.rollCallGroup from hd)]
      exact deliver_deliveredAs ..
    · rw [if_pos (show t.dest = Config.rollCallGroup from hd)]
      exact countMalformed_malformedAt ..

end Sys2Proof.Machine
end

section
/-! SUPPORT. What the hand-on of a frame keeps of the tables and the links (R9, R11 to R13, R51, R142). -/

namespace Sys2Proof.Machine

/-! ## Events that leave the tables alone -/

/-- The kinds raised by changes of the origin table alone (R104, R44). -/
def EventKind.ofTable : EventKind → Bool
  | .originChange => true
  | .tableFull => true
  | _ => false

/-- The tables, the change sets, the flags of the table's own kinds and the overflow counts stay. -/
structure KeepsTables (s t : State) : Prop where
  origins : t.origins = s.origins
  order : t.silentOrder = s.silentOrder
  changes : ∀ m, (t.links.get m).changes = (s.links.get m).changes
  kinds : ∀ m k, k.ofTable = true → hasKind (t.links.get m).flags k = hasKind (s.links.get m).flags k
  overflow : ∀ l, (t.lines.get l).cnt.overflow = (s.lines.get l).cnt.overflow

namespace KeepsTables
variable {s t u : State}

theorem refl (s : State) : KeepsTables s s := ⟨rfl, rfl, fun _ => rfl, fun _ _ _ => rfl, fun _ => rfl⟩

theorem trans (h : KeepsTables s t) (h' : KeepsTables t u) : KeepsTables s u where
  origins := h'.origins.trans h.origins
  order := h'.order.trans h.order
  changes m := (h'.changes m).trans (h.changes m)
  kinds m k hk := (h'.kinds m k hk).trans (h.kinds m k hk)
  overflow l := (h'.overflow l).trans (h.overflow l)

theorem after (h' : KeepsTables t u) (h : KeepsTables s t) : KeepsTables s u := h.trans h'

theorem of_parts (ho : t.origins = s.origins) (hq : t.silentOrder = s.silentOrder) (hk : t.links = s.links)
    (hl : ∀ l, (t.lines.get l).cnt.overflow = (s.lines.get l).cnt.overflow) : KeepsTables s t :=
  ⟨ho, hq, fun m => by rw [hk], fun m k _ => by rw [hk], hl⟩

theorem raiseBoth {k : EventKind} (hk : k.ofTable = false) (s : State) : KeepsTables s (raiseBoth k s) where
  origins := rfl
  order := rfl
  changes m := by cases m <;> rfl
  kinds m j hj := by
    have hne : decide (j = k) = false := decide_eq_false fun e => Bool.noConfusion (hk.symm.trans (e ▸ hj))
    have hflags (e : EventSet) : hasKind (e ||| k.bit) j = hasKind e j := by
      rw [hasKind_or_bit, hne, Bool.or_false]
    cases m <;> exact hflags _
  overflow _ := rfl

theorem onLine (l : Lane) (f : LinePort → LinePort) (s : State) (hf : (f (s.lines.get l)).cnt.overflow =
    (s.lines.get l).cnt.overflow) : KeepsTables s (s.onLine l f) :=
  of_parts rfl rfl rfl fun x => by
    rw [onLine_lines, PerLane.get_set_eq]
    split
    · next hx => rw [hf, hx]
    · rfl

theorem countLine (l : Lane) (f : LineCounts → LineCounts) (s : State) (hf : ∀ c, (f c).overflow = c.overflow) :
    KeepsTables s (s.countLine l f) := onLine l (fun p => { p with cnt := f p.cnt }) s (hf _)

end KeepsTables

section
variable (s : State)

theorem offerBay_keepsTables (m : Master) (f : Frame) : KeepsTables s (offerBay m f s) := by
  unfold offerBay
  split
  · exact .refl s
  · exact .of_parts rfl rfl rfl fun _ => rfl
  · exact .after (.raiseBoth rfl _) (.of_parts rfl rfl rfl fun _ => rfl)
  · exact .of_parts rfl rfl rfl fun _ => rfl

theorem offeredIf_keepsTables (b : Bool) (m : Master) (f : Frame) : KeepsTables s (s.offeredIf b m f) := by
  unfold State.offeredIf
  split
  · exact offerBay_keepsTables s m f
  · exact .refl s

theorem offerWhere_keepsTables (pick : Master → Bool) (f : Frame) : KeepsTables s (offerWhere pick f s) :=
  (offeredIf_keepsTables s _ .m1 f).trans (offeredIf_keepsTables _ _ .m2 f)

theorem countUnknown_keepsTables (m : Master) : KeepsTables s (countUnknown m s) := by
  obtain ⟨b, e⟩ := countUnknown_frame s m
  rw [e]
  exact .of_parts rfl rfl rfl fun _ => rfl

theorem deliver_keepsTables (l : Lane) (a : Addr) (f : Frame) : KeepsTables s (deliver l a f s) := by
  unfold deliver
  split
  · exact offerWhere_keepsTables s _ f
  · split
    · split
      · exact offerWhere_keepsTables s _ f
      · exact ((countUnknown_keepsTables s .m1).trans (countUnknown_keepsTables _ .m2)).trans
          (offerWhere_keepsTables _ _ f)
    · split
      · exact offerWhere_keepsTables s _ f
      · exact .countLine l _ s fun _ => rfl

theorem reported_keepsTables (cls : TrafficClass) : KeepsTables s (s.reported cls) := by
  unfold State.reported tripReport
  dsimp only
  split
  · have halert : KeepsTables s { s with alert := .alert, alertHold := some s.globals.alertHold } :=
      .of_parts rfl rfl rfl fun _ => rfl
    split
    · exact .after (.raiseBoth rfl _) halert
    · exact halert
  · exact .refl s

theorem decidePort_keepsTables (l : Lane) : KeepsTables s (decidePort l s) := by
  unfold decidePort
  dsimp only
  split
  · exact .refl s
  · split
    · exact .refl s
    · have hstate (p : LinePort) (hp : p.cnt.overflow = (s.lines.get l).cnt.overflow) :
          KeepsTables s (raiseBoth .lanePort (s.setLine l p)) :=
        .after (.raiseBoth rfl _) (.onLine l (fun _ => p) s hp)
      split
      · exact .after (.raiseBoth rfl _) (hstate _ rfl)
      · exact hstate _ rfl

theorem countAssurance_keepsTables (l code : Lane) : KeepsTables s (countAssurance l code s) := by
  unfold countAssurance
  dsimp only
  split
  · exact .refl s
  · exact (KeepsTables.onLine l (fun p => { p with
      run := p.run.add code, cnt := { p.cnt with assurance := p.cnt.assurance + 1 } }) s rfl).trans
      (decidePort_keepsTables _ l)

theorem countMalformed_keepsTables (l : Lane) : KeepsTables s (countMalformed l s) :=
  .countLine l _ s fun _ => rfl

/-! ## The parts of a hand-on -/

/-- What follows the trip report of a frame that is handed on (R9, R11, R13). -/
def State.passedOn (announcer : Option Nat) (l : Lane) (t : Tagged) (s : State) : State :=
  if t.cls = .rollCall then rollCallUnit announcer l t s
  else if t.dest = Config.rollCallGroup then countMalformed l s
  else deliver l t.dest ⟨t.cls, t.body⟩ s

theorem handOn_eq (announcer : Option Nat) (l : Lane) (t : Tagged) :
    handOn announcer l t s = (s.reported t.cls).passedOn announcer l t := rfl

theorem passedOn_frame (announcer : Option Nat) (l : Lane) (t : Tagged) : ∃ n b q o k, s.passedOn announcer l t =
    { s with lines := n, bays := b, silentOrder := q, origins := o, links := k } := by
  unfold State.passedOn
  split
  · obtain ⟨n, q, o, k, e⟩ := rollCallUnit_frame s announcer l t
    exact ⟨_, _, _, _, _, e⟩
  · split
    · exact ⟨_, _, _, _, _, rfl⟩
    · obtain ⟨n, b, k, e⟩ := deliver_frame s l t.dest ⟨t.cls, t.body⟩
      exact ⟨_, _, _, _, _, e⟩

/-- A frame from no record leaves the tables alone (R41). -/
theorem passedOn_none_keepsTables (l : Lane) (t : Tagged) : KeepsTables s (s.passedOn none l t) := by
  unfold State.passedOn rollCallUnit
  split
  · split
    · exact countAssurance_keepsTables s l t.code
    · exact countMalformed_keepsTables s l
  · split
    · exact countMalformed_keepsTables s l
    · exact deliver_keepsTables s l _ _

theorem handOn_none_keepsTables (l : Lane) (t : Tagged) : KeepsTables s (handOn none l t s) :=
  (reported_keepsTables s t.cls).trans (passedOn_none_keepsTables _ l t)

theorem handOn_alert (announcer : Option Nat) (l : Lane) (t : Tagged) :
    (handOn announcer l t s).alert = if t.cls = .trip then .alert else s.alert := by
  obtain ⟨n, b, q, o, k, e⟩ := passedOn_frame (s.reported t.cls) announcer l t
  rw [handOn_eq, e]
  exact reported_alert t.cls s

theorem handOn_alertHold (announcer : Option Nat) (l : Lane) (t : Tagged) : (handOn announcer l t s).alertHold =
    if t.cls = .trip then some s.globals.alertHold else s.alertHold := by
  obtain ⟨n, b, q, o, k, e⟩ := passedOn_frame (s.reported t.cls) announcer l t
  rw [handOn_eq, e]
  exact reported_alertHold t.cls s

end

/-! ## Overflow frames (R41) -/

theorem pairFilter_of_foreign {l : Lane} {t : Tagged} {s : State}
    (h : ¬ (t.source = s.station ∨ s.bays.one.station = some t.source ∨ s.bays.two.station = some t.source)) :
    pairFilter l t s = match filterCopy t.source ⟨l, t.seq, s.tick⟩ s with
      | (s', .overflow) => handOn none l t (s'.countLine l fun c => { c with overflow := c.overflow + 1 })
      | (s', .judged i v) => if v.accepted then handOn (some i) l t s' else s' :=
  if_neg (mt (ownAddress_iff s t.source).1 h)

theorem filterCopy_of_overflow {a : Addr} {s : State} (k : Copy) (hf : findOrigin s a = none)
    (h : groupBit a = true ∨ s.globals.learning = false ∨ (256 ≤ s.origins.length ∧ s.silentOrder = [])) :
    filterCopy a k s = (s, .overflow) := by
  rw [filterCopy, hf]
  dsimp only
  by_cases hl : groupBit a = true ∨ s.globals.learning = false
  · exact if_pos hl
  · obtain ⟨hfull, hempty⟩ := (h.resolve_left fun hg => hl (.inl hg)).resolve_left fun hg => hl (.inr hg)
    have hnot : ¬ tableFull s = false := by rw [(tableFull_iff s).2 hfull]; decide
    rw [if_neg hl, if_neg hnot, hempty]

/-- Settles O20: the frame is counted and handed on from no record. -/
theorem overflowFrameReachesNoRecord : Obligations.OverflowFrameReachesNoRecord := by
  intro l f t s p hp hgood htag hown hf hover
  have hexec : exec (.lineFrameReceive l f) s =
      .next (handOn none l t (s.countLine l fun c => { c with overflow := c.overflow + 1 })) := by
    rw [exec_lineFrameReceive, lineFrameEffect_of_tagged hp hgood htag, pairFilter_of_foreign hown,
      filterCopy_of_overflow _ hf hover]
  have hkeeps := handOn_none_keepsTables (s.countLine l fun c => { c with overflow := c.overflow + 1 }) l t
  refine ⟨_, hexec, hkeeps.origins, hkeeps.order, hkeeps.changes .m1, hkeeps.changes .m2, ?_, handOn_alert ..,
    handOn_alertHold .., handOn_handedOn ..⟩
  rw [hkeeps.overflow, countLine_lines, PerLane.get_set]

end Sys2Proof.Machine
end

section
/-! SUPPORT. A record learned from a frame (R36, R37, R40): its creating copy, its first notification, and what the
proxies of that frame leave of it. -/

namespace Sys2Proof.Machine

/-! ## The creating copy (R40, R58, R66) -/

/-- The record that a frame teaches, after its creating copy and before its notification. -/
def taughtOrigin (g : Globals) (k : Copy) (a : Addr) : Origin where
  addr := a
  owners := ⟨false, false⟩
  forgetTime := some g.profile.forget
  note := some (.frameOn k.port)
  cfg := learnedSettings g.profile
  win := ⟨true, k.seq, 1, [openPair (judgeSettings g) k], 0⟩
  lane := ⟨⟨0, 0⟩, laneStateOf g.lossLimit ⟨0, 0⟩, PerLane.set ⟨none, none⟩ k.port (some k.tick), some k.tick⟩
  pipe := ⟨false, 0, 0, 0, 0, .neither, .steady, .steady, 0, 0, none⟩
  notif := ⟨.steady, .neither, .silent⟩
  cnt := ⟨1, 0, 0, 0, 0, 0, 0, 0, 0, 0, 0, 0⟩
  silence := some g.profile.silence
  forget := some g.profile.forget

/-- A copy that seeds a window with no open pair leaves the ports, one open pair and both miss runs 0. -/
theorem judge_of_unseeded (g : JudgeSettings) (k : Copy) (lines : PerLane LinePort) {r : Origin}
    (h : r.win.seeded = false) : judge g k ⟨lines, r⟩ = ⟨.seed, ⟨lines, { r with
      win := { r.win with seeded := true, highest := k.seq, delivered := 1, pairs := [openPair g k], staleRun := 0 },
      lane := { r.lane with miss := ⟨0, 0⟩, state := laneStateOf g.limit ⟨0, 0⟩ },
      cnt := { r.cnt with accepted := r.cnt.accepted + 1 } }⟩, none⟩ := by
  have hseed : judge g k ⟨lines, r⟩ = judgeSeed g k ⟨lines, r⟩ := by
    unfold judge
    exact if_pos h
  have hzero : PerLane.set ⟨0, 0⟩ k.port 0 = (⟨0, 0⟩ : PerLane Nat) := by cases k.port <;> rfl
  rw [hseed, judgeSeed]
  simp only [Closing.accept, Closing.displace, Window.seedAt, Origin.clearMiss_eq, hzero]
  rfl

theorem judgedOrigin_learn (s : State) (k : Copy) (a : Addr) :
    judgedOrigin s k (Origin.learn s.globals.profile a (.frameOn k.port)) = taughtOrigin s.globals k a := by
  rw [judgedOrigin, afterJudgment,
    judge_of_unseeded (r := Origin.learn s.globals.profile a (.frameOn k.port)) _ _ _ rfl, learn_eq]
  rfl

theorem laneStateOf_zero {limit : Nat} (h : 1 ≤ limit) : laneStateOf limit ⟨0, 0⟩ = .paired :=
  (if_pos h).trans (if_pos h)

theorem caughtUp_taught (s : State) {g : Globals} (k : Copy) (a : Addr) (h : 1 ≤ g.lossLimit) :
    caughtUp s (taughtOrigin g k a) = ⟨.steady, .neither, .paired⟩ := by
  have hlane : (taughtOrigin g k a).lane.state = .paired := laneStateOf_zero h
  have hfree : leadHolds s.origins (taughtOrigin g k a) = false := rfl
  have hports : portHolds s (taughtOrigin g k a) = false := by simp [portHolds, hlane, LaneState.lossy]
  rw [caughtUp, hfree, hports, hlane]
  rfl

/-- An event that is a cause of notification for the record it put in a place (R106). -/
theorem compareAt_cause_of_put {i : Nat} {r : Origin} {s : State} {t : List (Nat × Origin)}
    (h : s.origins = tabPut t i r) : compareAt true i s =
      markChange i { s with origins := tabPut t i { r with notif := caughtUp s r } } := by
  rw [compareAt_of_taken (by rw [originAt, h, tabGet_tabPut_same]), if_pos (.inl rfl), State.setOrigin, h,
    tabPut_tabPut]

/-- The origin table and the silent order put in place. -/
def State.withTable (t : List (Nat × Origin)) (q : List Nat) (s : State) : State :=
  { s with origins := t, silentOrder := q }

theorem markChange_withTable (i : Nat) (t : List (Nat × Origin)) (q : List Nat) (s : State) :
    markChange i (s.withTable t q) = (markChange i s).withTable t q := rfl

theorem withTable_withTable (t t' : List (Nat × Origin)) (q q' : List Nat) (s : State) :
    (s.withTable t q).withTable t' q' = s.withTable t' q' := rfl

theorem judgeCreated_eq (i : Nat) (r : Origin) (k : Copy) (s : State) :
    judgeCreated i r k s = ((judgeCopy true i r k s).1, .judged i (judgeCopy true i r k s).2) := rfl

/-- A record put in a place and taught by the copy that created it: it is notified and the copy accepted. -/
theorem judgeCreated_learned (s : State) (i : Nat) (k : Copy) (a : Addr) : ∃ n,
    (1 ≤ s.globals.lossLimit → n = ⟨.steady, .neither, .paired⟩) ∧
    judgeCreated i (Origin.learn s.globals.profile a (.frameOn k.port)) k s =
      (markChange i (s.withTable (tabPut s.origins i { taughtOrigin s.globals k a with notif := n })
        (s.silentOrder.erase i)), .judged i .seed) := by
  have hj := judgedOrigin_learn s k a
  have haccept := judge_of_unseeded (judgeSettings s.globals) k s.lines
    (r := Origin.learn s.globals.profile a (.frameOn k.port)) rfl
  refine ⟨caughtUp (s.withTable (tabPut s.origins i (taughtOrigin s.globals k a)) (s.silentOrder.erase i))
    (taughtOrigin s.globals k a), caughtUp_taught _ k a, ?_⟩
  have hstate : (judgeCopy true i (Origin.learn s.globals.profile a (.frameOn k.port)) k s).1 = compareAt true i
      (s.withTable (tabPut s.origins i (taughtOrigin s.globals k a)) (s.silentOrder.erase i)) := by
    rw [judgeCopy_eq, hj, haccept]
    exact endEvent_of_put (r := taughtOrigin s.globals k a) rfl
  have hverdict : (judgeCopy true i (Origin.learn s.globals.profile a (.frameOn k.port)) k s).2 = .seed :=
    congrArg Judged.verdict haccept
  rw [judgeCreated_eq, hstate, hverdict, compareAt_cause_of_put (r := taughtOrigin s.globals k a) rfl]
  rfl

/-! ## What proxies leave of a record (R51, R52) -/

/-- Change sets, and the flags of the table's own kinds, only grow. -/
def LinksGrow (x y : PerMaster ControlLink) : Prop :=
  ∀ m, (∀ i ∈ (x.get m).changes, i ∈ (y.get m).changes) ∧
    ∀ k, k.ofTable = true → hasKind (x.get m).flags k = true → hasKind (y.get m).flags k = true

theorem LinksGrow.refl (x : PerMaster ControlLink) : LinksGrow x x := fun _ => ⟨fun _ => id, fun _ _ => id⟩

theorem LinksGrow.trans {x y z : PerMaster ControlLink} (h : LinksGrow x y) (h' : LinksGrow y z) : LinksGrow x z :=
  fun m => ⟨fun i hi => (h' m).1 i ((h m).1 i hi), fun k ht hk => (h' m).2 k ht ((h m).2 k ht hk)⟩

theorem linksGrow_toldNew (x : PerMaster ControlLink) (size i : Nat) :
    LinksGrow x ⟨x.one.toldNew size i, x.two.toldNew size i⟩ := by
  have hone (c : ControlLink) : (∀ j ∈ c.changes, j ∈ (c.toldNew size i).changes) ∧
      ∀ k, k.ofTable = true → hasKind c.flags k = true → hasKind (c.toldNew size i).flags k = true := by
    refine ⟨fun j hj => mem_setInsert.2 (.inr hj), fun k _ hk => ?_⟩
    unfold ControlLink.toldNew
    split <;> simp [hasKind_or_bit, hk]
  intro m
  cases m <;> exact hone _

/-- An event keeps one record; the links only hear more of the table; and a full table stays as large, with its silent
order and its TABLE FULL flags. -/
structure RecordStays (i : Nat) (r : Origin) (s t : State) : Prop where
  canonical : tabWf 256 t.origins = true
  kept : originAt t i = some r
  links : LinksGrow s.links t.links
  full : 256 ≤ s.origins.length → t.silentOrder = s.silentOrder ∧ t.origins.length = s.origins.length ∧
    ∀ m, hasKind (t.links.get m).flags .tableFull = hasKind (s.links.get m).flags .tableFull

section
variable {i : Nat} {r : Origin} {s t : State}

theorem RecordStays.refl (hc : tabWf 256 s.origins = true) (hr : originAt s i = some r) : RecordStays i r s s :=
  ⟨hc, hr, .refl _, fun _ => ⟨rfl, rfl, fun _ => rfl⟩⟩

theorem RecordStays.trans {u : State} (h : RecordStays i r s t) (h' : RecordStays i r t u) : RecordStays i r s u where
  canonical := h'.canonical
  kept := h'.kept
  links := h.links.trans h'.links
  full hfull := by
    obtain ⟨hq, hn, hk⟩ := h.full hfull
    obtain ⟨hq', hn', hk'⟩ := h'.full (hn ▸ hfull)
    exact ⟨hq'.trans hq, hn'.trans hn, fun m => (hk' m).trans (hk m)⟩

theorem KeepsTables.recordStays (h : KeepsTables s t) (hc : tabWf 256 s.origins = true)
    (hr : originAt s i = some r) : RecordStays i r s t where
  canonical := h.origins.symm ▸ hc
  kept := by rw [originAt, h.origins]; exact hr
  links m := ⟨fun j hj => (h.changes m).symm ▸ hj, fun k ht hk => (h.kinds m k ht).trans hk⟩
  full _ := ⟨h.order, by rw [h.origins], fun m => h.kinds m .tableFull rfl⟩

theorem reminded_eq (h : r.forget = r.forgetTime) : { r with forget := r.forgetTime } = r :=
  congrArg (fun x => { r with forget := x }) h.symm

theorem takeProxy_stays (n : Nat) (l : Lane) (a : Addr) (hc : tabWf 256 s.origins = true) (hr : originAt s i = some r)
    (hforget : r.forget = r.forgetTime) : RecordStays i r s (takeProxy n l a s) := by
  cases hf : findOrigin s a with
  | some e =>
    obtain ⟨j, x⟩ := e
    by_cases hl : x.learned = true
    · rw [takeProxy_of_learned hf hl]
      have hx := (tabWf.get_iff hc).2 (findOrigin_some hf).1
      refine ⟨tabWf_tabPut _ hc (tabWf.lt hc hx), ?_, .refl _, fun _ =>
        ⟨rfl, length_tabPut_taken _ (tabWf.rising hc) hx, fun _ => rfl⟩⟩
      by_cases hj : j = i
      · subst hj
        cases hr.symm.trans hx
        rw [originAt, setOrigin_origins, tabGet_tabPut_same, reminded_eq hforget]
      · exact (tabGet_tabPut_other _ _ hj).trans hr
    · rw [takeProxy_of_configured hf hl]
      exact .refl hc hr
  | none =>
    by_cases ha : ownAddress s a = true ∨ groupBit a = true
    · rw [takeProxy_of_excluded hf ha]
      exact .refl hc hr
    · by_cases hroom : s.globals.learning = false ∨ tableFull s = true
      · rw [takeProxy_of_noRoom hf ha hroom]
        exact KeepsTables.recordStays (.countLine l _ s fun _ => rfl) hc hr
      · have hlt : ¬ 256 ≤ s.origins.length := fun h => hroom (.inr ((tableFull_iff s).2 h))
        have hfree := tabGet_tabFree (tabWf.rising hc)
        rw [takeProxy_of_room hf ha hroom]
        refine ⟨tabWf_tabPut _ hc (tabFree_lt (tabWf.rising hc) (not_le.1 hlt)), ?_,
          linksGrow_toldNew s.links _ _, fun h => absurd h hlt⟩
        refine (tabGet_tabPut_other _ _ fun e => ?_).trans hr
        rw [e] at hfree
        cases hr.symm.trans hfree

theorem takeProxies_stays (n : Nat) (l : Lane) (hforget : r.forget = r.forgetTime) : ∀ (as : List Addr) (s : State),
    tabWf 256 s.origins = true → originAt s i = some r → RecordStays i r s (takeProxies n l as s)
  | [], _, hc, hr => .refl hc hr
  | a :: as, s, hc, hr => by
    have hfirst := takeProxy_stays n l a hc hr hforget
    exact hfirst.trans (takeProxies_stays n l hforget as _ hfirst.canonical hfirst.kept)

/-- The hand-on of a frame keeps the record it was accepted from (R51, R57). -/
theorem handOn_stays (n : Nat) (l : Lane) (t : Tagged) (hforget : r.forget = r.forgetTime)
    (hc : tabWf 256 s.origins = true) (hr : originAt s i = some r) : RecordStays i r s (handOn (some n) l t s) := by
  have hreport := (reported_keepsTables s t.cls).recordStays hc hr
  have thenKeeps {z u : State} (h : RecordStays i r s z) (h' : KeepsTables z u) : RecordStays i r s u :=
    h.trans (h'.recordStays h.canonical h.kept)
  rw [handOn_eq]
  unfold State.passedOn rollCallUnit
  split
  · split
    · exact thenKeeps (hreport.trans (takeProxies_stays n l hforget _ _ hreport.canonical hreport.kept))
        (countAssurance_keepsTables _ l t.code)
    · exact thenKeeps hreport (countMalformed_keepsTables _ l)
  · split
    · exact thenKeeps hreport (countMalformed_keepsTables _ l)
    · exact thenKeeps hreport (deliver_keepsTables _ l _ _)

theorem RecordStays.toldOf (h : RecordStays i r s t) {j : Nat} (hj : s.toldOf j) : t.toldOf j := by
  obtain ⟨h1, h2, h1', h2'⟩ := hj
  obtain ⟨hchanges1, hkinds1⟩ := h.links .m1
  obtain ⟨hchanges2, hkinds2⟩ := h.links .m2
  exact ⟨hchanges1 j h1, hchanges2 j h2, hkinds1 _ rfl h1', hkinds2 _ rfl h2'⟩

end

/-! ## Learning in a free place, and in the place of the silent head (R39, R40, R42) -/

theorem setInsert_setInsert : ∀ (i : Nat) (l : List Nat), setInsert i (setInsert i l) = setInsert i l
  | i, [] => by simp [setInsert]
  | i, k :: l => by
    by_cases hlt : i < k
    · simp [setInsert, hlt]
    · by_cases heq : i = k
      · simp [setInsert, heq]
      · simp [setInsert, hlt, heq, setInsert_setInsert i l]

theorem onLinks_onLinks (f g : ControlLink → ControlLink) (s : State) :
    (s.onLinks f).onLinks g = s.onLinks fun c => g (f c) := rfl

theorem markChange_eq (i : Nat) (s : State) :
    markChange i s = s.onLinks fun c => (c.addChange i).raise .originChange := rfl

/-- An index told of twice is told of once. -/
theorem markChange_markChange (i : Nat) (s : State) : markChange i (markChange i s) = markChange i s := by
  have hone (c : ControlLink) : (((c.addChange i).raise .originChange).addChange i).raise .originChange =
      (c.addChange i).raise .originChange := by
    simp [ControlLink.addChange, ControlLink.raise, setInsert_setInsert, BitVec.or_assoc]
  simp only [markChange_eq, onLinks_onLinks, hone]

theorem evictFor_eq (head : Nat) (r : Origin) (s : State) : evictFor head r s =
    (markChange head s).withTable (tabPut (tabErase s.origins head) head r) (s.silentOrder.erase head) := rfl

section
variable {a : Addr} {s : State} (k : Copy) (hf : findOrigin s a = none) (hg : groupBit a = false)
  (hlearn : s.globals.learning = true)
include hf hg hlearn

theorem filterCopy_of_room (hroom : s.origins.length < 256) : ∃ n,
    (1 ≤ s.globals.lossLimit → n = ⟨.steady, .neither, .paired⟩) ∧
    filterCopy a k s = ((markChange (tabFree s.origins) s.toldFull).withTable
      (tabPut s.origins (tabFree s.origins) { taughtOrigin s.globals k a with notif := n })
      (s.silentOrder.erase (tabFree s.origins)), .judged (tabFree s.origins) .seed) := by
  have hnot : ¬ (groupBit a = true ∨ s.globals.learning = false) := by simp [hg, hlearn]
  have hfree : tableFull s = false := decide_eq_false (not_le.2 hroom)
  have hfilter : filterCopy a k s = judgeCreated (tabFree s.origins) (learnedFrom a k s) k
      (s.toldFull.setOrigin (tabFree s.origins) (learnedFrom a k s)) := by
    rw [filterCopy, hf]
    dsimp only
    rw [if_neg hnot, if_pos hfree, placeOrigin_eq]
  obtain ⟨x, e⟩ := toldFull_frame s
  obtain ⟨n, hpaired, hjudged⟩ := judgeCreated_learned
    (({ s with links := x } : State).setOrigin (tabFree s.origins) (learnedFrom a k s)) (tabFree s.origins) k a
  refine ⟨n, hpaired, ?_⟩
  rw [hfilter, e]
  refine hjudged.trans ?_
  rw [setOrigin_origins, tabPut_tabPut]
  rfl

theorem filterCopy_of_eviction (hfull : 256 ≤ s.origins.length) {head : Nat} {rest : List Nat}
    (hq : s.silentOrder = head :: rest) (hc : tabWf 256 s.origins = true) (hn : s.silentOrder.Nodup) : ∃ n,
    (1 ≤ s.globals.lossLimit → n = ⟨.steady, .neither, .paired⟩) ∧
    filterCopy a k s = ((markChange head s).withTable
      (tabPut s.origins head { taughtOrigin s.globals k a with notif := n }) rest, .judged head .seed) := by
  have hnot : ¬ (groupBit a = true ∨ s.globals.learning = false) := by simp [hg, hlearn]
  have hno : ¬ tableFull s = false := by simp [(tableFull_iff s).2 hfull]
  have hfilter : filterCopy a k s =
      judgeCreated head (learnedFrom a k s) k (evictFor head (learnedFrom a k s) s) := by
    rw [filterCopy, hf]
    dsimp only
    rw [if_neg hnot, if_neg hno, hq]
  obtain ⟨hhead, -⟩ := List.nodup_cons.1 (hq ▸ hn)
  obtain ⟨n, hpaired, hjudged⟩ := judgeCreated_learned ((markChange head s).withTable
    (tabPut (tabErase s.origins head) head (learnedFrom a k s)) (s.silentOrder.erase head)) head k a
  refine ⟨n, hpaired, ?_⟩
  rw [hfilter, evictFor_eq]
  refine hjudged.trans ?_
  rw [withTable_withTable, markChange_withTable, markChange_markChange]
  simp only [State.withTable]
  rw [tabPut_tabPut, tabPut_tabErase _ (tabWf.rising hc), hq, List.erase_cons_head, List.erase_of_not_mem hhead]
  rfl

end

end Sys2Proof.Machine
end

section
/-! SUPPORT. A frame of an unknown source that is learned, in a free place or in that of the silent head (R39 to
R44). -/

namespace Sys2Proof.Machine

/-- A frame whose copy is accepted as the first of its record is handed on from that record. -/
theorem exec_of_seed {l : Lane} {f : RxFrame} {t : Tagged} {s v : State} {i : Nat} (hp : (s.lines.get l).state ≠ .down)
    (hgood : frameGood f = true) (htag : recognise f.data = .tagged t)
    (hown : ¬ (t.source = s.station ∨ s.bays.one.station = some t.source ∨ s.bays.two.station = some t.source))
    (hf : filterCopy t.source ⟨l, t.seq, s.tick⟩ s = (v, .judged i .seed)) :
    exec (.lineFrameReceive l f) s = .next (handOn (some i) l t v) := by
  rw [exec_lineFrameReceive, lineFrameEffect_of_tagged hp hgood htag, pairFilter_of_foreign hown, hf]
  rfl

theorem withTable_toldOf {s : State} {i : Nat} (h : s.toldOf i) (t : List (Nat × Origin)) (q : List Nat) :
    (s.withTable t q).toldOf i := h

theorem toldNew_tableFull (i : Nat) (c : ControlLink) : hasKind (c.toldNew 255 i).flags .tableFull = true := by
  simp [ControlLink.toldNew, hasKind_or_bit]

theorem markChange_tableFull (i : Nat) (s : State) (m : Master) :
    hasKind ((markChange i s).links.get m).flags .tableFull = hasKind (s.links.get m).flags .tableFull := by
  cases m <;> exact (hasKind_or_bit _ _ _).trans (Bool.or_false _)

/-- The record a frame teaches stays through the hand-on of that frame, told to both masters. -/
theorem handOn_taught {s : State} {n : Nat} {g : Globals} {k : Copy} {a : Addr} {x : Notified} (l : Lane) (t : Tagged)
    {o : List (Nat × Origin)} (q : List Nat) (hc : tabWf 256 o = true) (hn : n < 256) :
    RecordStays n { taughtOrigin g k a with notif := x }
      (s.withTable (tabPut o n { taughtOrigin g k a with notif := x }) q)
      (handOn (some n) l t (s.withTable (tabPut o n { taughtOrigin g k a with notif := x }) q)) :=
  handOn_stays n l t rfl (tabWf_tabPut _ hc hn) (tabGet_tabPut_same ..)

/-- Settles O22: the creating copy at the lowest free index, and then its hand-on, which keeps the record. -/
theorem unknownSourceIsLearned : Obligations.UnknownSourceIsLearned := by
  intro l f t s p hp hgood htag hown hc hf hg hlearn hroom hlimit g
  obtain ⟨n, hpaired, hfilter⟩ := filterCopy_of_room ⟨l, t.seq, s.tick⟩ hf hg hlearn hroom
  have hstays := handOn_taught (s := markChange (tabFree s.origins) s.toldFull) (g := s.globals)
    (k := ⟨l, t.seq, s.tick⟩) (a := t.source) (x := n) l t (s.silentOrder.erase (tabFree s.origins)) hc
    (tabFree_lt (tabWf.rising hc) hroom)
  obtain ⟨hone, htwo, hflag1, hflag2⟩ := hstays.toldOf (withTable_toldOf (markChange_toldOf _ _) _ _)
  refine ⟨_, _, tabFree s.origins, exec_of_seed hp hgood htag hown hfilter, tabGet_tabFree (tabWf.rising hc),
    fun k => tabGet_of_lt_tabFree (tabWf.rising hc), hstays.kept, ?_, hone, htwo, hflag1, hflag2, fun h255 => ?_, ?_⟩
  · rw [hpaired hlimit, taughtOrigin, laneStateOf_zero hlimit]
    rfl
  · have htold (m : Master) : hasKind (((markChange (tabFree s.origins) s.toldFull).links).get m).flags .tableFull =
        true := by
      rw [markChange_toldFull, h255]
      cases m <;> exact toldNew_tableFull ..
    exact ⟨(hstays.links .m1).2 _ rfl (htold .m1), (hstays.links .m2).2 _ rfl (htold .m2)⟩
  · rw [markChange_toldFull]
    exact handOn_handedOn ..

/-- Settles O23: the creating copy at the head of the silent order, and then its hand-on, which finds the table full. -/
theorem evictionReusesTheSilentHead : Obligations.EvictionReusesTheSilentHead := by
  intro l f t s head rest p hp hgood htag hown hc hsilent hf hg hlearn hfull hq g
  obtain ⟨hnodup, hexact⟩ := hsilent
  obtain ⟨r, hr, -⟩ := (hexact head).1 (hq ▸ List.mem_cons_self)
  obtain ⟨n, hpaired, hfilter⟩ := filterCopy_of_eviction ⟨l, t.seq, s.tick⟩ hf hg hlearn hfull hq hc hnodup
  have hstays := handOn_taught (s := markChange head s) (g := s.globals) (k := ⟨l, t.seq, s.tick⟩) (a := t.source)
    (x := n) l t rest hc (tabWf.lt hc hr)
  obtain ⟨hone, htwo, hflag1, hflag2⟩ := hstays.toldOf (withTable_toldOf (markChange_toldOf _ _) _ _)
  have hsize := length_tabPut_taken
    { taughtOrigin s.globals ⟨l, t.seq, s.tick⟩ t.source with notif := n } (tabWf.rising hc) hr
  obtain ⟨horder, hlength, hkinds⟩ := hstays.full (hsize.symm ▸ hfull)
  have hflags (m : Master) := (hkinds m).trans (markChange_tableFull head s m)
  refine ⟨_, _, exec_of_seed hp hgood htag hown hfilter, hstays.kept, rfl, rfl, rfl, rfl, rfl, rfl, fun hlimit => ?_,
    horder, hlength.trans hsize, hone, htwo, hflag1, hflag2, hflags .m1, hflags .m2, handOn_handedOn ..⟩
  rw [hpaired hlimit, taughtOrigin, laneStateOf_zero hlimit]
  rfl

end Sys2Proof.Machine
end

section
/-! SUPPORT. The places of a copy and the verdicts of the table (R56, R57): one equation for each row of the table. -/

namespace Sys2Proof.Machine

/-- Settles O10: soundness of windows is an invariant of the records, and asks nothing of the stored ones. -/
theorem windowsStaySound : Obligations.WindowsStaySound := fun _ _ h hs =>
  (judgeable_invariant.step ⟨h, fun _ _ => trivial, fun _ _ => trivial, fun _ _ _ _ => trivial⟩ hs).1

/-! ## Placement (R56) -/

section
variable {highest seq : SeqNo}

theorem place_of_same (h : seqDistance highest seq = 0) : place highest seq = .inside 0 := if_pos h

theorem place_of_newer (h1 : 1 ≤ seqDistance highest seq) (h2 : seqDistance highest seq ≤ 32767) :
    place highest seq = .newer (seqDistance highest seq) := by
  rw [place, if_neg (by omega), if_pos h2]

theorem place_of_inside (h1 : 32768 ≤ seqDistance highest seq) (h2 : 65536 - seqDistance highest seq ≤ 63) :
    place highest seq = .inside (65536 - seqDistance highest seq) := by
  rw [place, if_neg (by omega), if_neg (by omega), if_pos h2]

theorem place_of_stale (h1 : 32768 ≤ seqDistance highest seq) (h2 : 63 < 65536 - seqDistance highest seq) :
    place highest seq = .stale := by
  rw [place, if_neg (by omega), if_neg (by omega), if_neg (by omega)]

theorem seqDistance_eq (highest seq : SeqNo) :
    seqDistance highest seq = (seq.toNat + 65536 - highest.toNat) % 65536 := by
  unfold seqDistance
  bv_omega

theorem offsetBehind_eq (highest seq : SeqNo) :
    offsetBehind highest seq = (highest.toNat + 65536 - seq.toNat) % 65536 := by
  unfold offsetBehind
  bv_omega

/-- How far a sequence lies behind is what its distance lacks of 65,536. -/
theorem offsetBehind_eq_distance (highest seq : SeqNo) : offsetBehind highest seq =
    if seqDistance highest seq = 0 then 0 else 65536 - seqDistance highest seq := by
  have hd := seqDistance_eq highest seq
  have hb := offsetBehind_eq highest seq
  split <;> omega

/-- A sequence at most 63 behind the highest is inside the window, at that offset. -/
theorem place_of_offsetBehind (h : offsetBehind highest seq ≤ 63) :
    place highest seq = .inside (offsetBehind highest seq) := by
  rw [offsetBehind_eq_distance] at h ⊢
  by_cases h0 : seqDistance highest seq = 0
  · rw [if_pos h0, place_of_same h0]
  · rw [if_neg h0] at h ⊢
    exact place_of_inside (by omega) h

end

/-- Settles O29, by the four ranges of the distance; a jump back is 65,536 less the distance. -/
theorem placementFollowsSequenceDistance : Obligations.PlacementFollowsSequenceDistance := by
  intro highest seq d back
  have hd : seqDistance highest seq = d := seqDistance_eq highest seq
  have hback : d + back = 65536 ∨ d = 0 ∧ back = 0 := by omega
  refine ⟨fun h1 h2 => ?_, fun h => ?_, fun h1 h2 => ?_, fun h1 h2 => ?_, fun b hb => ?_, fun h => ?_, fun h1 h2 => ?_⟩
  · rw [place_of_newer (hd ▸ h1) (hd ▸ h2), hd]
  · exact place_of_same (hd.trans h)
  · rw [place_of_inside (hd ▸ h1) (hd ▸ h2), hd]
  · exact place_of_stale (hd ▸ h1) (hd ▸ h2)
  · obtain ⟨hoff, h63⟩ := place_inside hb
    refine ⟨h63, ?_⟩
    rw [← hoff, offsetBehind, BitVec.ofNat_toNat, BitVec.setWidth_eq]
    bv_omega
  · rw [place_of_newer (by omega) (by omega), hd]
  · exact place_of_stale (by omega) (by omega)

/-! ## The rows of the table (R57) -/

/-- The rows of R57's table: when each of them judges a copy, and by which rule. -/
inductive JudgedBy (g : JudgeSettings) (k : Copy) (c : Closing) : Judged → Prop
  | seed (hs : c.orig.win.seeded = false) : JudgedBy g k c (judgeSeed g k c)
  | newer (hs : c.orig.win.seeded = true) {d : Nat} (hp : place c.orig.win.highest k.seq = .newer d) :
    JudgedBy g k c (judgeNewer g k d c)
  | outOfOrder (hs : c.orig.win.seeded = true) {b : Nat} (hp : place c.orig.win.highest k.seq = .inside b)
    (hd : c.orig.win.delivered.getLsbD b = false) : JudgedBy g k c (judgeOutOfOrder g k b c)
  | late (hs : c.orig.win.seeded = true) {b : Nat} (hp : place c.orig.win.highest k.seq = .inside b)
    (hd : c.orig.win.delivered.getLsbD b = true) (hq : c.orig.win.pairOf k.seq = none) : JudgedBy g k c (judgeLate k c)
  | again (hs : c.orig.win.seeded = true) {b : Nat} (hp : place c.orig.win.highest k.seq = .inside b)
    (hd : c.orig.win.delivered.getLsbD b = true) {p : OpenPair} (hq : c.orig.win.pairOf k.seq = some p)
    (hf : p.first = k.port) : JudgedBy g k c (judgeRepeat c)
  | twin (hs : c.orig.win.seeded = true) {b : Nat} (hp : place c.orig.win.highest k.seq = .inside b)
    (hd : c.orig.win.delivered.getLsbD b = true) {p : OpenPair} (hq : c.orig.win.pairOf k.seq = some p)
    (hf : p.first ≠ k.port) : JudgedBy g k c (judgeTwin g k p c)
  | stale (hs : c.orig.win.seeded = true) (hp : place c.orig.win.highest k.seq = .stale)
    (hr : c.orig.win.staleRun < 2) : JudgedBy g k c (judgeStale c)
  | resync (hs : c.orig.win.seeded = true) (hp : place c.orig.win.highest k.seq = .stale)
    (hr : ¬ c.orig.win.staleRun < 2) : JudgedBy g k c (judgeResync g k c)

section
variable (g : JudgeSettings) (k : Copy) (c : Closing)

theorem judge_judgedBy : JudgedBy g k c (judge g k c) := by
  unfold judge
  dsimp only
  split
  · next hs => exact .seed hs
  · next hs =>
    have hs := eq_true_of_ne_false hs
    split
    · next hp => exact .newer hs hp
    · next hp =>
      split
      · next hd => exact .outOfOrder hs hp hd
      · next hd =>
        have hd := eq_true_of_ne_false hd
        split
        · next hq => exact .late hs hp hd hq
        · next hq =>
          split
          · next hf => exact .again hs hp hd hq hf
          · next hf => exact .twin hs hp hd hq hf
    · next hp =>
      split
      · next hr => exact .stale hs hp hr
      · next hr => exact .resync hs hp hr

/-- The pair of the copy's sequence is found by it. -/
theorem seq_of_pairOf {w : Window} {seq : SeqNo} {p : OpenPair} (h : w.pairOf seq = some p) : p.seq = seq := by
  simpa using List.find?_some h

end

section
variable {g : JudgeSettings} {k : Copy} {c : Closing} {b : Nat} (hs : c.orig.win.seeded = true)
  (hp : place c.orig.win.highest k.seq = .inside b) (hd : c.orig.win.delivered.getLsbD b = true)
include hs hp hd

theorem judge_of_repeat {p : OpenPair} (hq : c.orig.win.pairOf k.seq = some p) (hf : p.first = k.port) :
    judge g k c = judgeRepeat c := by
  simp [judge, hs, hp, hd, hq, hf]

theorem judge_of_late (hq : c.orig.win.pairOf k.seq = none) : judge g k c = judgeLate k c := by
  simp [judge, hs, hp, hd, hq]

end

/-- Settles O31: the two rules for a delivered sequence that completes no pair. -/
theorem repeatsAndLateDuplicatesAreDiscarded : Obligations.RepeatsAndLateDuplicatesAreDiscarded := by
  intro g k c b w hs hp hd
  refine ⟨fun p hq hf => judge_of_repeat hs hp hd hq hf, fun hq => ?_, rfl, rfl⟩
  rw [judge_of_late hs hp hd hq, judgeLate]
  cases k.port <;> rfl

end Sys2Proof.Machine
end

section
/-! SUPPORT. An acceptance with the pairs it closes (R66, R68, R70 to R75), and the statements about the verdicts. -/

namespace Sys2Proof.Machine

/-! ## Closings and an acceptance (R66, R70) -/

/-- The pairs an acceptance closes missing: those of `out`, and the oldest of a list that holds eight (R70, R71). -/
def closedBy (out left : List OpenPair) : List OpenPair := if 8 ≤ left.length then out ++ left.take 1 else out

/-- The older pairs an acceptance keeps (R70). -/
def keptBy (left : List OpenPair) : List OpenPair := if 8 ≤ left.length then left.drop 1 else left

theorem closeAll_append (limit : Nat) : ∀ (ps qs : List OpenPair) (c : Closing),
    Closing.closeAll limit (ps ++ qs) c = Closing.closeAll limit qs (Closing.closeAll limit ps c)
  | [], _, _ => rfl
  | p :: ps, qs, c => closeAll_append limit ps qs (c.closeMissing limit p)

theorem displace_closeAll (limit : Nat) (out : List OpenPair) (c : Closing) :
    (Closing.closeAll limit out c).displace limit =
      (Closing.closeAll limit (closedBy out c.orig.win.pairs) c).withPairs (keptBy c.orig.win.pairs) := by
  have hpairs := closeAll_pairs limit out c
  have hsame (d : Closing) : d.withPairs d.orig.win.pairs = d := rfl
  unfold Closing.displace closedBy keptBy
  rw [hpairs]
  split
  · next h => rw [if_neg (by simp [h]), if_neg (by simp [h]), ← hpairs, hsame]
  · next p ps h =>
    rw [h]
    split
    · next h8 =>
      rw [if_pos (show 8 ≤ _ from h8), if_pos (show 8 ≤ _ from h8), closeAll_append]
      rfl
    · next h8 =>
      rw [if_neg (show ¬ 8 ≤ _ from h8), if_neg (show ¬ 8 ≤ _ from h8), ← h, ← hpairs, hsame]

/-- An acceptance after some closings, in full: the ports and miss runs the closings leave, the run of the copy's port
cleared, the new pair at the tail. -/
theorem accept_closeAll (g : JudgeSettings) (k : Copy) (out : List OpenPair) (c : Closing) :
    let d := Closing.closeAll g.limit (closedBy out c.orig.win.pairs) c
    let miss := d.orig.lane.miss.set k.port 0
    (Closing.closeAll g.limit out c).accept g k = ⟨d.lines, { c.orig with
      win := { c.orig.win with pairs := keptBy c.orig.win.pairs ++ [openPair g k], staleRun := 0 },
      lane := { c.orig.lane with miss := miss, state := { c.orig.lane with miss := miss }.restated g.limit },
      cnt := { c.orig.cnt with
        accepted := c.orig.cnt.accepted + 1, missA := d.orig.cnt.missA, missB := d.orig.cnt.missB } }⟩ := by
  dsimp only
  have hcnt := closeAll_cnt g.limit (closedBy out c.orig.win.pairs) c
  obtain ⟨l, cnt, e, hlast, hframe, hsilent, -⟩ := closeAll_orig g.limit (closedBy out c.orig.win.pairs) c
  rw [Closing.accept, displace_closeAll]
  generalize Closing.closeAll g.limit (closedBy out c.orig.win.pairs) c = d at hcnt e ⊢
  obtain ⟨lines, r⟩ := d
  dsimp only at hcnt e
  subst e
  dsimp only at hcnt
  simp only [Closing.withPairs, Origin.clearMiss_eq, LanePart.restated, hsilent, hlast, hframe]
  rw [hcnt]

/-! ## What each acceptance starts from (R58 to R60, R65) -/

/-- The open pairs a newer copy leaves more than 63 behind (R71). -/
def fallenPairs (k : Copy) (v : Verdict) (w : Window) : List OpenPair :=
  if v = .newer then w.pairs.filter fun p => decide (63 < offsetBehind k.seq p.seq) else []

/-- The older open pairs that a verdict of acceptance leaves in the window. -/
def leftPairs (k : Copy) (v : Verdict) (w : Window) : List OpenPair :=
  if v = .newer then w.pairs.filter fun p => !decide (63 < offsetBehind k.seq p.seq)
  else if v = .outOfOrder then w.pairs else []

/-- A record `r` made ready for an acceptance with a verdict: its window moved, its run ended at seed and its pairs
abandoned at resync, and nothing else of it changed. -/
structure Readied (k : Copy) (v : Verdict) (r r' : Origin) : Prop where
  window : r'.win = { r'.win with
    seeded := true, highest := if v = .outOfOrder then r.win.highest else k.seq, pairs := leftPairs k v r.win }
  alone : v = .seed ∨ v = .resync → r'.win.delivered = 1
  shifted : v = .newer → ∀ o, o < 64 → r'.win.delivered.getLsbD o =
    (decide (o = 0) || (decide (seqDistance r.win.highest k.seq ≤ o) &&
      r.win.delivered.getLsbD (o - seqDistance r.win.highest k.seq)))
  added : v = .outOfOrder → ∀ o, o < 64 → r'.win.delivered.getLsbD o =
    (decide (o = offsetBehind r.win.highest k.seq) || r.win.delivered.getLsbD o)
  miss : r'.lane.miss = if v = .seed then ⟨0, 0⟩ else r.lane.miss
  silent : r'.lane.state = .silent ↔ v ≠ .seed ∧ r.lane.state = .silent
  counts : r'.cnt = { r.cnt with
    abandoned := r.cnt.abandoned + if v = .resync then BitVec.ofNat 32 r.win.pairs.length else 0,
    resyncs := r.cnt.resyncs + if v = .resync then 1 else 0 }
  rest : r' = { r with
    win := r'.win, cnt := r'.cnt, lane := { r.lane with miss := r'.lane.miss, state := r'.lane.state } }

section
variable (k : Copy) (r : Origin)

theorem readied_seed : Readied k .seed r
    { r with win := r.win.seedAt k.seq, lane := { r.lane with miss := ⟨0, 0⟩, state := .paired } } where
  window := rfl
  alone _ := rfl
  shifted := nofun
  added := nofun
  miss := rfl
  silent := by simp
  counts := by simp
  rest := rfl

theorem readied_resync : Readied k .resync r
    { r with win := r.win.seedAt k.seq, cnt := { r.cnt with
      abandoned := r.cnt.abandoned + BitVec.ofNat 32 r.win.pairs.length, resyncs := r.cnt.resyncs + 1 } } where
  window := rfl
  alone _ := rfl
  shifted := nofun
  added := nofun
  miss := rfl
  silent := by simp
  counts := rfl
  rest := rfl

variable {k r} (hs : r.win.seeded = true)
include hs

theorem readied_newer {d : Nat} (hp : place r.win.highest k.seq = .newer d) : Readied k .newer r
    { r with win := { r.win with
      highest := k.seq, delivered := r.win.delivered <<< d ||| 1,
      pairs := r.win.pairs.filter fun p => !decide (63 < offsetBehind k.seq p.seq) } } where
  window := by rw [← hs]; rfl
  alone := nofun
  shifted _ o ho := by
    have hd : seqDistance r.win.highest k.seq = d := (place_newer hp).1.symm
    have hle : decide (d ≤ o) = !decide (o < d) := by rw [← decide_not, decide_eq_decide, Nat.not_lt]
    rw [BitVec.getLsbD_or, BitVec.getLsbD_shiftLeft, hd, hle]
    simp [ho, Bool.or_comm]
  added := nofun
  miss := rfl
  silent := by simp
  counts := by simp
  rest := rfl

theorem readied_outOfOrder {b : Nat} (hp : place r.win.highest k.seq = .inside b) : Readied k .outOfOrder r
    { r with win := { r.win with delivered := r.win.delivered ||| 1#64 <<< b } } where
  window := by rw [← hs]; rfl
  alone := nofun
  shifted := nofun
  added _ o ho := by
    obtain ⟨hb, h63⟩ := place_inside hp
    have hbit : (1#64 <<< b).getLsbD o = (decide (b < 64) && decide (b = o)) := BitVec.getLsbD_twoPow b o
    rw [hb, BitVec.getLsbD_or, Bool.or_comm, hbit]
    simp [show b < 64 by omega, eq_comm]
  miss := rfl
  silent := by simp
  counts := by simp
  rest := rfl

end

section
variable {g : JudgeSettings} {k : Copy} {c : Closing}

/-- Every acceptance closes the pairs that fall out of the window and accepts the copy from a readied record. -/
theorem judge_of_accepted (h : (judge g k c).verdict.accepted = true) : ∃ r, Readied k (judge g k c).verdict c.orig r ∧
    judge g k c = ⟨(judge g k c).verdict, (Closing.closeAll g.limit
      (fallenPairs k (judge g k c).verdict c.orig.win) { c with orig := r }).accept g k, none⟩ := by
  have hrow := judge_judgedBy g k c
  generalize judge g k c = j at h hrow
  cases hrow with
  | seed hs => exact ⟨_, readied_seed k c.orig, rfl⟩
  | newer hs hp => exact ⟨_, readied_newer hs hp, rfl⟩
  | outOfOrder hs hp hd => exact ⟨_, readied_outOfOrder hs hp, rfl⟩
  | resync hs hp hr => exact ⟨_, readied_resync k c.orig, rfl⟩
  | late hs hp hd hq => cases h
  | again hs hp hd hq hf => cases h
  | twin hs hp hd hq hf => cases h
  | stale hs hp hr => cases h

/-- What an acceptance leaves of a readied record `r` that keeps the pairs `kept`, once its closings have come to `d`: the
run of the copy's port cleared and the copy's own pair at the tail (R66). -/
def acceptedOrigin (g : JudgeSettings) (k : Copy) (kept : List OpenPair) (d : Closing) (r : Origin) : Origin :=
  { r with
    win := { r.win with pairs := kept ++ [openPair g k], staleRun := 0 },
    lane := { r.lane with
      miss := d.orig.lane.miss.set k.port 0,
      state := { r.lane with miss := d.orig.lane.miss.set k.port 0 }.restated g.limit },
    cnt := { r.cnt with
      accepted := r.cnt.accepted + 1, missA := d.orig.cnt.missA, missB := d.orig.cnt.missB } }

/-- An acceptance leaves a readied record with the charges of the closings. -/
theorem judge_accepted_closing (h : (judge g k c).verdict.accepted = true) :
    let v := (judge g k c).verdict
    let left := leftPairs k v c.orig.win
    ∃ (r : Origin) (d : Closing), Readied k v c.orig r ∧
      (∀ x, Closing.Charged x (missedOf x (closedBy (fallenPairs k v c.orig.win) left)) { c with orig := r } d) ∧
      judge g k c = ⟨v, ⟨d.lines, acceptedOrigin g k (keptBy left) d r⟩, none⟩ := by
  obtain ⟨r, hready, hj⟩ := judge_of_accepted h
  have hleft : r.win.pairs = leftPairs k (judge g k c).verdict c.orig.win := by rw [hready.window]
  rw [accept_closeAll] at hj
  refine ⟨r, _, hready, fun x => closeAll_charged g.limit x _ _, ?_⟩
  rw [← hleft]
  exact hj

end

/-! ## The verdict and the counts (R57) -/

section
variable (g : JudgeSettings) (k : Copy) (c : Closing)

/-- The verdict of a copy inside a seeded window (R57). -/
theorem judge_verdict_inside {b : Nat} (hs : c.orig.win.seeded = true)
    (hp : place c.orig.win.highest k.seq = .inside b) : (judge g k c).verdict =
      if c.orig.win.delivered.getLsbD b = false then .outOfOrder
      else
        match c.orig.win.pairOf k.seq with
        | none => .lateDuplicate
        | some p => if p.first = k.port then .sameLaneRepeat else .twin := by
  unfold judge
  dsimp only
  rw [if_neg (by simp [hs]), hp]
  dsimp only
  split
  · rfl
  · cases c.orig.win.pairOf k.seq with
    | none => rfl
    | some p =>
      dsimp only
      split <;> rfl

/-- The verdict, read off the distance, the delivered set, the open pair and the stale run. -/
theorem judge_verdict_eq :
    let w := c.orig.win
    let d := seqDistance w.highest k.seq
    (judge g k c).verdict =
      (if w.seeded = false then .seed
       else if 1 ≤ d ∧ d ≤ 32767 then .newer
       else if offsetBehind w.highest k.seq ≤ 63 then
         if w.delivered.getLsbD (offsetBehind w.highest k.seq) = false then .outOfOrder
         else
           match w.pairOf k.seq with
           | none => .lateDuplicate
           | some p => if p.first = k.port then .sameLaneRepeat else .twin
       else if w.staleRun < 2 then .staleDiscard else .resync) := by
  intro w d
  by_cases hs : w.seeded = false
  · rw [if_pos hs]
    exact (judge_verdict_eq_seed g k c).2 hs
  · rw [if_neg hs]
    by_cases hnew : 1 ≤ d ∧ d ≤ 32767
    · rw [if_pos hnew]
      unfold judge
      dsimp only
      rw [if_neg hs, place_of_newer hnew.1 hnew.2]
      rfl
    · rw [if_neg hnew]
      by_cases h63 : offsetBehind w.highest k.seq ≤ 63
      · rw [if_pos h63]
        exact judge_verdict_inside g k c (eq_true_of_ne_false hs) (place_of_offsetBehind h63)
      · have hoff := offsetBehind_eq_distance w.highest k.seq
        have hd0 : ¬ d = 0 := fun h0 => h63 (by rw [hoff, if_pos h0]; exact Nat.zero_le 63)
        rw [if_neg hd0] at hoff
        rw [if_neg h63]
        unfold judge
        dsimp only
        rw [if_neg hs, place_of_stale (show 32768 ≤ d by omega) (show 63 < 65536 - d by omega)]
        dsimp only
        split <;> rfl

/-- The accepted count rises by 1 exactly at an acceptance (R53, R66). -/
theorem judge_accepted_count : (judge g k c).closing.orig.cnt.accepted =
    c.orig.cnt.accepted + if (judge g k c).verdict.accepted = true then 1 else 0 := by
  by_cases h : (judge g k c).verdict.accepted = true
  · obtain ⟨r, d, hready, -, e⟩ := judge_accepted_closing h
    have hcount : r.cnt.accepted = c.orig.cnt.accepted := by rw [hready.counts]
    rw [if_pos h, e]
    exact congrArg (· + 1) hcount
  · rw [if_neg h, add_zero]
    have hrow := judge_judgedBy g k c
    generalize judge g k c = j at h hrow
    cases hrow with
    | late hs hp hd hq =>
      unfold judgeLate OriginCounts.late
      cases k.port <;> rfl
    | twin hs hp hd hq hf => simp only [judgeTwin, Origin.clearMiss_eq]
    | again hs hp hd hq hf => rfl
    | stale hs hp hr => rfl
    | _ => exact absurd rfl h

/-- Seed, newer, out-of-order first copy and resync are the acceptances (R57). -/
theorem Verdict.accepted_iff (v : Verdict) :
    v.accepted = true ↔ v = .seed ∨ v = .newer ∨ v = .outOfOrder ∨ v = .resync := by
  cases v <;> decide

/-- A twin moves the window, the run of its port with the lane state, and one count (R61). -/
theorem judge_of_verdict_twin (h : (judge g k c).verdict = .twin) : ∃ p, c.orig.win.pairOf k.seq = some p ∧
    judge g k c = judgeTwin g k p c := by
  have hrow := judge_judgedBy g k c
  generalize judge g k c = j at h hrow
  cases hrow with
  | twin hs hp hd hq hf => exact ⟨_, hq, rfl⟩
  | _ => cases h

theorem judge_of_verdict_stale (h : (judge g k c).verdict = .staleDiscard) : judge g k c = judgeStale c := by
  have hrow := judge_judgedBy g k c
  generalize judge g k c = j at h hrow
  cases hrow with
  | stale hs hp hr => rfl
  | _ => cases h

theorem judge_completed_eq_none (h : (judge g k c).verdict ≠ .twin) : (judge g k c).completed = none := by
  have hrow := judge_judgedBy g k c
  generalize judge g k c = j at h hrow
  cases hrow with
  | twin hs hp hd hq hf => exact absurd rfl h
  | _ => rfl

end

/-- Settles O30: the verdict by the ranges of the distance; an acceptance from its readied record and the accounts of
both lanes; a twin and a stale discard by their rules. -/
theorem verdictsFollowTheTable : Obligations.VerdictsFollowTheTable := by
  intro g k c w d b j r
  have hb : offsetBehind w.highest k.seq = b := offsetBehind_eq_distance _ _
  refine ⟨hb ▸ judge_verdict_eq g k c, ?_, fun haccepted => ?_, fun htwin => ?_, fun hstale => ?_,
    judge_completed_eq_none g k c⟩
  · simp only [← Verdict.accepted_iff]
    exact judge_accepted_count g k c
  · intro own behind out left full closed missed away charged
    have haway (x : Lane) : (c.lines.get x).unavailable = true ↔ away x := LinePort.unavailable_iff _
    have hbehind : behind = fun p => decide (63 < offsetBehind k.seq p.seq) := by
      funext p
      simp only [behind, offsetBehind_eq]
    have hout : fallenPairs k j.verdict w = out := by simp only [out, hbehind, fallenPairs]
    have hleft : leftPairs k j.verdict w = left := by simp only [left, hbehind, leftPairs]
    obtain ⟨r1, e, hready, hcharged, hj⟩ : ∃ r1 e, Readied k j.verdict c.orig r1 ∧
        (∀ x, Closing.Charged x (missedOf x (closedBy out left)) { c with orig := r1 } e) ∧
        j = ⟨j.verdict, ⟨e.lines, acceptedOrigin g k (keptBy left) e r1⟩, none⟩ := by
      rw [← hout, ← hleft]
      exact judge_accepted_closing haccepted
    have hr : r = acceptedOrigin g k (keptBy left) e r1 := congrArg (fun j => j.closing.orig) hj
    have hcount (x : Lane) : e.orig.cnt.missesOf x = c.orig.cnt.missesOf x + charged x := by
      rw [(hcharged x).count, hready.counts]
      simp only [haway]
      cases x <;> rfl
    have hdelivered : r.win.delivered = r1.win.delivered := by rw [hr]; rfl
    have hmiss : r.lane.miss = e.orig.lane.miss.set k.port 0 := by rw [hr]; rfl
    rw [hdelivered, hmiss]
    refine ⟨?_, hready.alone, hready.shifted, fun hv => ?_, fun x => ⟨?_, ?_⟩, ?_, ?_, ?_⟩
    · rw [hr, acceptedOrigin, hready.window]
      rfl
    · rw [← hb]
      exact hready.added hv
    · have hlines : j.closing.lines = e.lines := congrArg (fun j => j.closing.lines) hj
      rw [hlines]
      have hline := (hcharged x).line
      simp only [haway] at hline
      exact hline
    · have hrun := (hcharged x).run
      simp only [haway] at hrun
      rw [PerLane.get_set_eq]
      by_cases hx : x = k.port
      · rw [if_pos hx, if_pos (.inl hx)]
      · rw [if_neg hx]
        by_cases hv : j.verdict = .seed
        · have hnone : closedBy out left = [] := by rw [← hout, ← hleft, hv]; rfl
          rw [if_pos (.inr hv), hrun, hready.miss, if_pos hv, hnone]
          cases x <;> simp [missedOf, PerLane.get]
        · rw [if_neg (not_or.2 ⟨hx, hv⟩), hrun, hready.miss, if_neg hv]
          rfl
    · rw [hr, acceptedOrigin]
      simp only [LanePart.restated, hready.silent]
    · rw [hr, acceptedOrigin, ← show _ = c.orig.cnt.missA + charged .a from hcount .a,
        ← show _ = c.orig.cnt.missB + charged .b from hcount .b, hready.counts]
      rfl
    · rw [hr, acceptedOrigin, hready.rest]
  · intro miss
    obtain ⟨p, hq, e⟩ := judge_of_verdict_twin g k c htwin
    have hseq := seq_of_pairOf hq
    have hj : j = judgeTwin g k p c := e
    rw [hj]
    refine ⟨?_, hq.symm⟩
    simp only [judgeTwin, Origin.clearMiss_eq, LanePart.restated, hseq]
    rfl
  · show (judge g k c).closing = _
    rw [judge_of_verdict_stale g k c hstale]
    rfl

end Sys2Proof.Machine
end

section
/-! SUPPORT. A sequence accepted once stays in the window, delivered, until the window has moved past it (R76). -/

namespace Sys2Proof.Machine

/-- A sequence lies in the window at an offset of at most 63, delivered. -/
def Window.HoldsAt (w : Window) (seq : SeqNo) (o : Nat) : Prop :=
  o ≤ 63 ∧ offsetBehind w.highest seq = o ∧ w.delivered.getLsbD o = true

theorem Window.HoldsAt.congr {w v : Window} {seq : SeqNo} {o : Nat} (h : w.HoldsAt seq o) (hhigh : v.highest = w.highest)
    (hdelivered : v.delivered = w.delivered) : v.HoldsAt seq o := by
  unfold Window.HoldsAt
  rw [hhigh, hdelivered]
  exact h

section
variable {g : JudgeSettings} {k : Copy} {c : Closing}

theorem accepted_window (h : (judge g k c).verdict.accepted = true) : ∃ r, Readied k (judge g k c).verdict c.orig r ∧
    (judge g k c).closing.orig.win.highest = r.win.highest ∧
    (judge g k c).closing.orig.win.delivered = r.win.delivered := by
  obtain ⟨r, d, hready, -, hj⟩ := judge_accepted_closing h
  exact ⟨r, hready, congrArg (fun j => j.closing.orig.win.highest) hj,
    congrArg (fun j => j.closing.orig.win.delivered) hj⟩

theorem window_of_not_accepted (h : (judge g k c).verdict.accepted ≠ true) :
    c.orig.win.agrees (judge g k c).closing.orig.win := by
  have hrow := judge_judgedBy g k c
  generalize judge g k c = j at h hrow
  cases hrow with
  | late hs hp hd hq => exact ⟨rfl, rfl, rfl⟩
  | again hs hp hd hq hf => exact ⟨rfl, rfl, rfl⟩
  | stale hs hp hr => exact ⟨rfl, rfl, rfl⟩
  | twin hs hp hd hq hf =>
    simp only [judgeTwin, Origin.clearMiss_eq]
    exact ⟨rfl, rfl, rfl⟩
  | _ => exact absurd rfl h

theorem place_of_verdict_newer (h : (judge g k c).verdict = .newer) :
    place c.orig.win.highest k.seq = .newer (seqDistance c.orig.win.highest k.seq) := by
  have hrow := judge_judgedBy g k c
  generalize judge g k c = j at h hrow
  cases hrow with
  | newer hs hp => rw [hp, (place_newer hp).1, seqDistance]
  | _ => cases h

theorem place_of_verdict_outOfOrder (h : (judge g k c).verdict = .outOfOrder) :
    place c.orig.win.highest k.seq = .inside (offsetBehind c.orig.win.highest k.seq) ∧
    c.orig.win.delivered.getLsbD (offsetBehind c.orig.win.highest k.seq) = false := by
  have hrow := judge_judgedBy g k c
  generalize judge g k c = j at h hrow
  cases hrow with
  | outOfOrder hs hp hd =>
    rw [(place_inside hp).1]
    exact ⟨hp, hd⟩
  | _ => cases h

/-- An accepted sequence lies in the window, delivered. -/
theorem holdsAt_of_accepted (h : (judge g k c).verdict.accepted = true) :
    (judge g k c).closing.orig.win.HoldsAt k.seq (offsetBehind (judge g k c).closing.orig.win.highest k.seq) := by
  obtain ⟨r, hready, hhigh, hdelivered⟩ := accepted_window h
  have hrhigh : r.win.highest = if (judge g k c).verdict = .outOfOrder then c.orig.win.highest else k.seq := by
    rw [hready.window]
  refine .congr ?_ hhigh hdelivered
  rw [hhigh, hrhigh]
  by_cases hv : (judge g k c).verdict = .outOfOrder
  · obtain ⟨-, h63⟩ := place_inside (place_of_verdict_outOfOrder hv).1
    rw [if_pos hv] at hrhigh ⊢
    exact ⟨h63, by rw [hrhigh], by rw [hready.added hv _ (by omega)]; simp⟩
  · rw [if_neg hv] at hrhigh ⊢
    rw [offsetBehind_self]
    refine ⟨Nat.zero_le _, by rw [hrhigh, offsetBehind_self], ?_⟩
    by_cases hn : (judge g k c).verdict = .newer
    · rw [hready.shifted hn 0 (by omega)]
      rfl
    · rw [hready.alone (by have := (Verdict.accepted_iff _).1 h; tauto)]
      rfl

/-- How far a judged copy moves the highest accepted sequence within one seeding. -/
def advanceOf (g : JudgeSettings) (k : Copy) (c : Closing) : Nat :=
  if (judge g k c).verdict = .newer then seqDistance c.orig.win.highest k.seq else 0

/-- A copy that does not seed the window leaves a delivered sequence in it, farther behind by the copy's advance, or
moves the window past it. -/
theorem holdsAt_judge {seq : SeqNo} {o : Nat} (h : c.orig.win.HoldsAt seq o) (hseed : (judge g k c).verdict ≠ .seed)
    (hresync : (judge g k c).verdict ≠ .resync) : 63 < o + advanceOf g k c ∨
      (judge g k c).closing.orig.win.HoldsAt seq (o + advanceOf g k c) := by
  obtain ⟨h63, hoff, hbit⟩ := h
  by_cases ha : (judge g k c).verdict.accepted = true
  · obtain ⟨r, hready, hhigh, hdelivered⟩ := accepted_window ha
    have hrhigh : r.win.highest = if (judge g k c).verdict = .outOfOrder then c.orig.win.highest else k.seq := by
      rw [hready.window]
    unfold advanceOf
    by_cases hn : (judge g k c).verdict = .newer
    · obtain ⟨-, -, hle⟩ := place_newer (place_of_verdict_newer hn)
      rw [if_pos hn]
      refine or_iff_not_imp_left.2 fun hno => .congr ⟨not_lt.1 hno, ?_, ?_⟩ hhigh hdelivered
      · rw [hrhigh, hn, if_neg (by decide), offsetBehind_newer hle (hoff.le.trans h63), hoff]
        rfl
      · rw [hready.shifted hn _ (by omega), Nat.add_sub_cancel, hbit]
        simp
    · have hv : (judge g k c).verdict = .outOfOrder := by have := (Verdict.accepted_iff _).1 ha; tauto
      rw [if_neg hn, add_zero]
      refine .inr (.congr ⟨h63, ?_, ?_⟩ hhigh hdelivered)
      · rw [hrhigh, if_pos hv, hoff]
      · rw [hready.added hv _ (by omega), hbit, Bool.or_true]
  · have hn : (judge g k c).verdict ≠ .newer := fun hv => ha (by rw [hv]; rfl)
    obtain ⟨-, hhigh, hdelivered⟩ := window_of_not_accepted ha
    rw [advanceOf, if_neg hn]
    exact .inr (.congr ⟨h63, hoff, hbit⟩ hhigh.symm hdelivered.symm)

/-- A copy of a delivered sequence in the window is accepted by seed or resync alone. -/
theorem not_accepted_of_holdsAt {o : Nat} (h : c.orig.win.HoldsAt k.seq o) (hseed : (judge g k c).verdict ≠ .seed)
    (hresync : (judge g k c).verdict ≠ .resync) : (judge g k c).verdict.accepted ≠ true := by
  obtain ⟨h63, hoff, hbit⟩ := h
  rw [Ne, Verdict.accepted_iff]
  rintro (hv | hv | hv | hv)
  · exact hseed hv
  · have hp := place_of_offsetBehind (hoff.le.trans h63)
    rw [place_of_verdict_newer hv] at hp
    cases hp
  · have hd := (place_of_verdict_outOfOrder hv).2
    rw [hoff, hbit] at hd
    cases hd
  · exact hresync hv

end

/-- Through a run a delivered sequence falls behind by the run's advance, or out of the window. -/
theorem holdsAt_run (g : JudgeSettings) {seq : SeqNo} : ∀ {run : List (Closing × Copy)} {o : Nat} {c e : Closing},
    c.orig.win.HoldsAt seq o → WindowRun g c run e →
    63 < o + runAdvance g run ∨ e.orig.win.HoldsAt seq (o + runAdvance g run)
  | [], o, c, e, h, hrun => by
    obtain ⟨-, hhigh, hdelivered⟩ := hrun
    exact .inr (h.congr hhigh.symm hdelivered.symm)
  | (d, k) :: run, o, c, e, h, hrun => by
    obtain ⟨⟨-, hhigh, hdelivered⟩, hseed, hresync, hrest⟩ := hrun
    have hadvance : runAdvance g ((d, k) :: run) = advanceOf g k d + runAdvance g run := rfl
    rw [hadvance, ← Nat.add_assoc]
    rcases holdsAt_judge (h.congr hhigh.symm hdelivered.symm) hseed hresync with hout | hin
    · exact .inl (by omega)
    · exact holdsAt_run g hin hrest

/-- Settles O32: while its offset is at most 63 the sequence is still delivered, and its copies are no acceptances. -/
theorem acceptedOnlyOnceBetweenSeedings : Obligations.AcceptedOnlyOnceBetweenSeedings := by
  intro g k k' c e run hfirst hrun hseq hseed hresync hagain
  refine (holdsAt_run g (holdsAt_of_accepted hfirst) hrun).resolve_right fun hin => ?_
  exact not_accepted_of_holdsAt (hseq ▸ hin) hseed hresync hagain

end Sys2Proof.Machine
end

section
/-! SUPPORT. Pair expiry (R69, R74): the pair due first, and the charge of the lane that did not deliver it. -/

namespace Sys2Proof.Machine

/-! ## The pair due first -/

/-- Among ticks less than 2^31 after a base, one comes before another exactly when it lies nearer to the base. -/
theorem tickBefore_iff {x y base : Tick} (hx : (x - base).toNat < 2147483648) (hy : (y - base).toNat < 2147483648) :
    tickBefore x y = true ↔ (x - base).toNat < (y - base).toNat := by
  have hsplit : x - y = (x - base) - (y - base) := by ring
  rw [tickBefore, hsplit, BitVec.msb_eq_decide, decide_eq_true_eq]
  generalize x - base = u at *
  generalize y - base = v at *
  bv_omega

theorem firstDue_spec (base : Tick) : ∀ ps : List OpenPair, ps ≠ [] →
    (∀ q ∈ ps, (q.expiry - base).toNat < 2147483648) →
    ∃ before p after, ps = before ++ p :: after ∧ firstDue ps = some p ∧
      (∀ q ∈ before, (p.expiry - base).toNat < (q.expiry - base).toNat) ∧
      ∀ q ∈ after, (p.expiry - base).toNat ≤ (q.expiry - base).toNat
  | [], hne, _ => absurd rfl hne
  | [p], _, _ => ⟨[], p, [], rfl, rfl, by simp, by simp⟩
  | p :: q :: qs, _, hnear => by
    obtain ⟨before, x, after, hsplit, hx, hbefore, hafter⟩ :=
      firstDue_spec base (q :: qs) (List.cons_ne_nil _ _) fun y hy => hnear y (List.mem_cons_of_mem _ hy)
    have hxmem : x ∈ p :: q :: qs := by simp [hsplit]
    have hcmp := tickBefore_iff (hnear x hxmem) (hnear p List.mem_cons_self)
    rw [firstDue, hx]
    dsimp only
    split
    · next hlt =>
      refine ⟨p :: before, x, after, by rw [hsplit]; rfl, rfl, fun y hy => ?_, hafter⟩
      rcases List.mem_cons.1 hy with rfl | hy
      · exact hcmp.1 hlt
      · exact hbefore y hy
    · next hge =>
      have hle : (p.expiry - base).toNat ≤ (x.expiry - base).toNat := not_lt.1 (mt hcmp.2 hge)
      refine ⟨[], p, q :: qs, rfl, rfl, by simp, fun y hy => ?_⟩
      rw [hsplit, List.mem_append, List.mem_cons] at hy
      rcases hy with hy | rfl | hy
      · exact hle.trans (hbefore y hy).le
      · exact hle
      · exact hle.trans (hafter y hy)

/-! ## The charge -/

section
variable {limit : Nat} {p : OpenPair} {lines : PerLane LinePort} {r : Origin}

theorem expirePair_of_unavailable (h : (lines.get (otherLane p.first)).unavailable = true) :
    Closing.expirePair limit p ⟨lines, r⟩ = ⟨lines.set (otherLane p.first) { lines.get (otherLane p.first) with
        cnt := { (lines.get (otherLane p.first)).cnt with
          missUnavail := (lines.get (otherLane p.first)).cnt.missUnavail + 1 } },
      { r with win := { r.win with pairs := r.win.pairs.filter fun q => decide (q.seq ≠ p.seq) } }⟩ := by
  simp only [Closing.expirePair, Closing.closeMissing, if_pos h]
  rfl

theorem expirePair_of_available (h : ¬ (lines.get (otherLane p.first)).unavailable = true) :
    Closing.expirePair limit p ⟨lines, r⟩ = ⟨lines, { r.chargeMiss limit (otherLane p.first) with
      win := { r.win with pairs := r.win.pairs.filter fun q => decide (q.seq ≠ p.seq) } }⟩ := by
  simp only [Closing.expirePair, Closing.closeMissing, if_neg h, Closing.withPairs, Origin.chargeMiss_eq]

theorem exec_pairExpiry {i : Nat} {s : State} (hr : originAt s i = some r) (hp : firstDue r.win.pairs = some p) :
    exec (.pairExpiry i) s = .next (compareAt false i { s with
      lines := (Closing.expirePair s.globals.lossLimit p ⟨s.lines, r⟩).lines,
      origins := tabPut s.origins i (Closing.expirePair s.globals.lossLimit p ⟨s.lines, r⟩).orig }) := by
  show Host.Outcome.next (pairExpiryEffect i s) = _
  rw [pairExpiryEffect, hr]
  dsimp only
  rw [hp]
  obtain ⟨l, cnt, e, -⟩ := expirePair_orig s.globals.lossLimit p ⟨s.lines, r⟩
  have hpipe : (Closing.expirePair s.globals.lossLimit p ⟨s.lines, r⟩).orig.pipe = r.pipe := by rw [e]
  dsimp only
  rw [← hpipe, endEvent_of_put rfl]

end

/-- Settles O26: the pair due first by induction over the list; then the charge by the state of the port, and the
comparison of a record whose level stayed. -/
theorem pairExpiryChargesTheMissingLane : Obligations.PairExpiryChargesTheMissingLane := by
  refine ⟨fun ps base => firstDue_spec base ps, ?_⟩
  intro i r p s hr hp x port away
  have haway : port.unavailable = true ↔ away := LinePort.unavailable_iff port
  obtain ⟨l, cnt, horig, hlast, hframe, -⟩ := expirePair_orig s.globals.lossLimit p ⟨s.lines, r⟩
  have hgone (h : away) := expirePair_of_unavailable (limit := s.globals.lossLimit) (r := r) (haway.2 h)
  have hthere (h : ¬ away) := expirePair_of_available (limit := s.globals.lossLimit) (r := r) (mt haway.1 h)
  rw [exec_pairExpiry hr hp]
  generalize Closing.expirePair s.globals.lossLimit p ⟨s.lines, r⟩ = c at horig hgone hthere ⊢
  generalize hv : ({ s with lines := c.lines, origins := tabPut s.origins i c.orig } : State) = v
  have hget : originAt v i = some c.orig := by
    rw [← hv]
    exact tabGet_tabPut_same ..
  refine ⟨compareAt false i v, _, rfl, originAt_compareAt hget, by rw [horig], by rw [horig]; exact hlast,
    by rw [horig]; exact hframe, by rw [horig], by rw [horig], by rw [horig], by rw [horig],
    by rw [compareAt_silentOrder, ← hv], by rw [horig], fun _ => ?_, fun h => ?_, fun h => ?_⟩
  · have hback : { c.orig with notif := r.notif } = c.orig := by rw [horig]
    have hcompared := compareAt_compared i v
    dsimp only
    rw [compareAt_lines, hback]
    rw [← hv] at hcompared ⊢
    exact hcompared
  · rw [compareAt_lines, ← hv, hgone h]
    exact ⟨rfl, rfl, rfl⟩
  · rw [compareAt_lines, ← hv, hthere h, Origin.chargeMiss_eq]
    exact ⟨rfl, rfl, rfl, rfl⟩

end Sys2Proof.Machine
end

section
/-! SUPPORT. The event of one judged copy (R57, R46, R80): the record it leaves, the comparisons that end it, and the
hand-on of an accepted one. -/

namespace Sys2Proof.Machine

/-! ## The record that judgment and a completed pair leave -/

/-- Judgment changes of a record its window, its miss runs and lane state, and its counters. -/
theorem judge_frame (g : JudgeSettings) (k : Copy) (c : Closing) : ∃ w miss state cnt,
    (judge g k c).closing.orig =
      { c.orig with win := w, lane := { c.orig.lane with miss := miss, state := state }, cnt := cnt } := by
  by_cases h : (judge g k c).verdict.accepted = true
  · obtain ⟨r, d, hready, -, hj⟩ := judge_accepted_closing h
    rw [hj, acceptedOrigin, hready.rest]
    exact ⟨_, _, _, _, rfl⟩
  · have hrow := judge_judgedBy g k c
    generalize judge g k c = j at h hrow
    cases hrow with
    | late hs hp hd hq => exact ⟨_, _, _, _, rfl⟩
    | again hs hp hd hq hf => exact ⟨_, _, _, _, rfl⟩
    | stale hs hp hr => exact ⟨_, _, _, _, rfl⟩
    | twin hs hp hd hq hf =>
      rw [judgeTwin, Origin.clearMiss_eq]
      exact ⟨_, _, _, _, rfl⟩
    | _ => exact absurd rfl h

theorem capturedSettings_silence (cfg : OriginSettings) (p : Pipeline) :
    (capturedSettings cfg p).silence = cfg.silence := by
  unfold capturedSettings
  split <;> rfl

/-- A completed pair changes of a record its pipeline, its counts of spikes and saturated samples, and by a captured
baseline its settings (R80, R87). -/
theorem processPair_fields (band : HysteresisBand) (lead : Option Int) (first : Lane) (t1 t2 : Tick) (r : Origin) :
    ∃ cfg pipe spikes saturated, (processPair band lead first t1 t2 r).1 =
      { r with cfg := cfg, pipe := pipe, cnt := { r.cnt with spikes := spikes, saturated := saturated } } ∧
      cfg.silence = r.cfg.silence := by
  have hsaturated (b : Bool) : (if b then { r.cnt with saturated := r.cnt.saturated + 1 } else r.cnt) =
      { r.cnt with saturated := if b then r.cnt.saturated + 1 else r.cnt.saturated } := by
    cases b <;> rfl
  unfold processPair
  dsimp only
  rw [hsaturated]
  split
  · exact ⟨_, _, _, _, rfl, capturedSettings_silence ..⟩
  · split
    · exact ⟨_, _, _, _, rfl, capturedSettings_silence ..⟩
    · exact ⟨_, _, _, _, rfl, capturedSettings_silence ..⟩

/-- The record after judgment and the pipeline of a completed pair, before its refresh, and whether a capture completed. -/
def pairedOrigin (s : State) (k : Copy) (j : Judged) : Origin × Bool :=
  match j.completed with
  | some p => processPair s.globals.band (leadRawOf s.origins j.closing.orig.cfg) p.first p.tick k.tick j.closing.orig
  | none => (j.closing.orig, false)

theorem afterJudgment_eq (s : State) (k : Copy) (j : Judged) :
    afterJudgment s k j = ((pairedOrigin s k j).1.refresh k, (pairedOrigin s k j).2) := by
  unfold afterJudgment pairedOrigin
  cases j.completed <;> rfl

theorem pairedOrigin_fields (s : State) (k : Copy) (j : Judged) : ∃ cfg pipe spikes saturated, (pairedOrigin s k j).1 =
    { j.closing.orig with
      cfg := cfg, pipe := pipe, cnt := { j.closing.orig.cnt with spikes := spikes, saturated := saturated } } ∧
    cfg.silence = j.closing.orig.cfg.silence := by
  unfold pairedOrigin
  cases j.completed with
  | none => exact ⟨_, _, _, _, rfl, rfl⟩
  | some p => exact processPair_fields ..

/-! ## Comparisons leave a record all but its notified status (R104) -/

/-- A canonical table stays canonical, and every record stays but for its notified status. -/
def StatusAlone (s t : State) : Prop :=
  (tabWf 256 s.origins = true → tabWf 256 t.origins = true) ∧
  ∀ i r, originAt s i = some r → ∃ n, originAt t i = some { r with notif := n }

theorem StatusAlone.refl (s : State) : StatusAlone s s := ⟨id, fun _ r hr => ⟨r.notif, hr⟩⟩

theorem StatusAlone.trans {s t u : State} (h : StatusAlone s t) (h' : StatusAlone t u) : StatusAlone s u := by
  refine ⟨h'.1 ∘ h.1, fun i r hr => ?_⟩
  obtain ⟨n, hn⟩ := h.2 i r hr
  exact h'.2 i { r with notif := n } hn

theorem compareAt_statusAlone (cause : Bool) (i : Nat) (s : State) : StatusAlone s (compareAt cause i s) := by
  cases hr : originAt s i with
  | none =>
    rw [compareAt_of_free hr]
    exact .refl s
  | some r =>
    rw [compareAt_of_taken hr]
    split
    · refine ⟨fun hc => tabWf_tabPut _ hc (tabWf.lt hc hr), fun k x hx => ?_⟩
      by_cases hk : k = i
      · subst hk
        cases hr.symm.trans hx
        exact ⟨_, tabGet_tabPut_same ..⟩
      · exact ⟨x.notif, (tabGet_tabPut_other _ _ (Ne.symm hk)).trans hx⟩
    · exact .refl s

theorem compareEach_statusAlone : ∀ (is : List Nat) (s : State), StatusAlone s (compareEach is s)
  | [], s => .refl s
  | i :: is, s => (compareAt_statusAlone false i s).trans (compareEach_statusAlone is _)

theorem endEvent_statusAlone (cause : Bool) (before : Level) (i : Nat) (s : State) :
    StatusAlone s (endEvent cause before i s) := by
  have hown := compareAt_statusAlone cause i s
  unfold endEvent
  dsimp only
  split
  · exact hown
  · split
    · exact hown.trans (compareEach_statusAlone _ _)
    · exact hown

/-! ## The hand-on keeps a record (R51) -/

/-- A canonical table stays canonical, and the record at an index stays as it is. -/
def KeepsRecord (i : Nat) (r : Origin) (s t : State) : Prop :=
  tabWf 256 s.origins = true → originAt s i = some r → tabWf 256 t.origins = true ∧ originAt t i = some r

section
variable {i : Nat} {r : Origin} {s : State}

theorem KeepsRecord.trans {t u : State} (h : KeepsRecord i r s t) (h' : KeepsRecord i r t u) : KeepsRecord i r s u :=
  fun hc hr => h' (h hc hr).1 (h hc hr).2

theorem KeepsTables.keepsRecord {t : State} (h : KeepsTables s t) : KeepsRecord i r s t := fun hc hr =>
  have hstays := h.recordStays hc hr
  ⟨hstays.canonical, hstays.kept⟩

/-- A proxy refreshes learned records alone, and leaves one whose forget timer is fresh as it is. -/
theorem takeProxy_keepsRecord (n : Nat) (l : Lane) (a : Addr)
    (hforget : r.learned = true → r.forget = r.forgetTime) : KeepsRecord i r s (takeProxy n l a s) := fun hc hr => by
  cases hf : findOrigin s a with
  | some e =>
    obtain ⟨j, x⟩ := e
    by_cases hx : x.learned = true
    · have hj := (tabWf.get_iff hc).2 (findOrigin_some hf).1
      rw [takeProxy_of_learned hf hx]
      refine ⟨tabWf_tabPut _ hc (tabWf.lt hc hj), ?_⟩
      by_cases hji : j = i
      · subst hji
        cases hr.symm.trans hj
        rw [originAt, setOrigin_origins, tabGet_tabPut_same, reminded_eq (hforget hx)]
      · exact (tabGet_tabPut_other _ _ hji).trans hr
    · rw [takeProxy_of_configured hf hx]
      exact ⟨hc, hr⟩
  | none =>
    by_cases ha : ownAddress s a = true ∨ groupBit a = true
    · rw [takeProxy_of_excluded hf ha]
      exact ⟨hc, hr⟩
    · by_cases hroom : s.globals.learning = false ∨ tableFull s = true
      · rw [takeProxy_of_noRoom hf ha hroom]
        exact ⟨hc, hr⟩
      · have hlt : s.origins.length < 256 := not_le.1 fun h => hroom (.inr ((tableFull_iff s).2 h))
        have hne : tabFree s.origins ≠ i := fun e => by
          have hfree := tabGet_tabFree (tabWf.rising hc)
          rw [e] at hfree
          cases hr.symm.trans hfree
        rw [takeProxy_of_room hf ha hroom]
        exact ⟨tabWf_tabPut _ hc (tabFree_lt (tabWf.rising hc) hlt), (tabGet_tabPut_other _ _ hne).trans hr⟩

theorem takeProxies_keepsRecord (n : Nat) (l : Lane) (hforget : r.learned = true → r.forget = r.forgetTime) :
    ∀ (as : List Addr) (s : State), KeepsRecord i r s (takeProxies n l as s)
  | [], _ => fun hc hr => ⟨hc, hr⟩
  | a :: as, _ => (takeProxy_keepsRecord n l a hforget).trans (takeProxies_keepsRecord n l hforget as _)

theorem handOn_keepsRecord (n : Nat) (l : Lane) (t : Tagged) (hforget : r.learned = true → r.forget = r.forgetTime) :
    KeepsRecord i r s (handOn (some n) l t s) := by
  have hreport : KeepsRecord i r s (s.reported t.cls) := (reported_keepsTables s t.cls).keepsRecord
  rw [handOn_eq]
  unfold State.passedOn rollCallUnit
  split
  · split
    · exact (hreport.trans (takeProxies_keepsRecord n l hforget _ _)).trans
        (countAssurance_keepsTables _ l t.code).keepsRecord
    · exact hreport.trans (countMalformed_keepsTables _ l).keepsRecord
  · split
    · exact hreport.trans (countMalformed_keepsTables _ l).keepsRecord
    · exact hreport.trans (deliver_keepsTables _ l _ _).keepsRecord

/-! ## The event -/

/-- A copy of a record is judged, and handed on when it is accepted (R39, R57). -/
theorem exec_of_judged {l : Lane} {f : RxFrame} {t : Tagged} (hp : (s.lines.get l).state ≠ .down)
    (hgood : frameGood f = true) (htag : recognise f.data = .tagged t)
    (hown : ¬ (t.source = s.station ∨ s.bays.one.station = some t.source ∨ s.bays.two.station = some t.source))
    (hf : findOrigin s t.source = some (i, r)) :
    exec (.lineFrameReceive l f) s =
      .next (if (judgeCopy false i r ⟨l, t.seq, s.tick⟩ s).2.accepted = true then
          handOn (some i) l t (judgeCopy false i r ⟨l, t.seq, s.tick⟩ s).1
        else (judgeCopy false i r ⟨l, t.seq, s.tick⟩ s).1) := by
  rw [exec_lineFrameReceive, lineFrameEffect_of_tagged hp hgood htag, pairFilter_of_foreign hown, filterCopy, hf]

end

/-- Settles O21: the event judges the copy, refreshes the record and compares; comparisons and the hand-on leave of the
record all but its notified status. -/
theorem judgedCopyMovesItsRecord : Obligations.JudgedCopyMovesItsRecord := by
  intro l f t s i r p hp hgood htag hown hc hf j leadRaw paired moved v
  have hr : tabGet s.origins i = some r := (tabWf.get_iff hc).2 (findOrigin_some hf).1
  obtain ⟨w, miss, state, cnt, hj⟩ : ∃ w miss state cnt, j.closing.orig =
    { r with win := w, lane := { r.lane with miss := miss, state := state }, cnt := cnt } := judge_frame ..
  obtain ⟨cfg, pipe, spikes, saturated, hpaired, hsilence⟩ := pairedOrigin_fields s ⟨l, t.seq, s.tick⟩ j
  have hsame : paired = pairedOrigin s ⟨l, t.seq, s.tick⟩ j := by
    have hcfg : j.closing.orig.cfg = r.cfg := by rw [hj]
    unfold pairedOrigin
    rw [hcfg]
    rfl
  rw [← hsame] at hpaired
  have hmoved : judgedOrigin s ⟨l, t.seq, s.tick⟩ r = moved := by
    show (afterJudgment s ⟨l, t.seq, s.tick⟩ j).1 = moved
    rw [afterJudgment_eq, ← hsame]
    simp only [moved, Origin.refresh, hpaired, hsilence, hj]
    rfl
  have hevent : (judgeCopy false i r ⟨l, t.seq, s.tick⟩ s).1 = v := by
    have hcaptured : (afterJudgment s ⟨l, t.seq, s.tick⟩
        (judge (judgeSettings s.globals) ⟨l, t.seq, s.tick⟩ ⟨s.lines, r⟩)).2 = paired.2 := by
      rw [afterJudgment_eq, hsame]
      rfl
    rw [judgeCopy_eq, hmoved, hcaptured]
    rfl
  have hstatus := endEvent_statusAlone paired.2 r.pipe.level i { s with
    lines := j.closing.lines, origins := tabPut s.origins i moved,
    silentOrder := if j.verdict = .seed then s.silentOrder.erase i else s.silentOrder }
  have hcanonical : tabWf 256 v.origins = true := hstatus.1 (tabWf_tabPut _ hc (tabWf.lt hc hr))
  obtain ⟨n, hn⟩ := hstatus.2 i moved (tabGet_tabPut_same ..)
  have hlearned : moved.learned = r.learned := by simp only [moved, hpaired, hj, Origin.learned]
  have hforget : moved.learned = true → moved.forget = moved.forgetTime := fun h => by
    simp only [moved, hpaired, hj, if_pos (hlearned ▸ h)]
  have hkept : originAt (if j.verdict.accepted = true then handOn (some i) l t v else v) i =
      some { moved with notif := n } := by
    split
    · exact (handOn_keepsRecord (r := { moved with notif := n }) i l t hforget hcanonical hn).2
    · exact hn
  have hquiet : v.bays = s.bays ∧ v.alert = s.alert ∧ v.alertHold = s.alertHold := by
    obtain ⟨o, c, e⟩ := endEvent_frame { s with
      lines := j.closing.lines, origins := tabPut s.origins i moved,
      silentOrder := if j.verdict = .seed then s.silentOrder.erase i else s.silentOrder } paired.2 r.pipe.level i
    rw [show v = _ from e]
    exact ⟨rfl, rfl, rfl⟩
  refine ⟨_, { moved with notif := n }, exec_of_judged hp hgood htag hown hf, ?_⟩
  rw [hevent, show (judgeCopy false i r ⟨l, t.seq, s.tick⟩ s).2 = j.verdict from rfl]
  refine ⟨hkept, fun h => by rw [h]; rfl, fun h => ?_, rfl, ?_⟩
  · rw [if_pos h]
    exact handOn_handedOn ..
  · simp only [moved, hpaired, hj, PerLane.get_set, PerLane.get_set_other, true_and]
    intro h
    rw [if_neg (by simp [h])]
    exact hquiet

end Sys2Proof.Machine
end

section
/-! SUPPORT. Lane states follow the miss runs (R75): whatever an event leaves in a place of the table is Silent or shows
the lane state of its miss runs under the loss limit in force, effect by effect. -/

namespace Sys2Proof.Machine

/-! ## Records -/

/-- A record is Silent or shows the lane state its miss runs give under a limit (R75). -/
def Origin.LaneCurrent (limit : Nat) (r : Origin) : Prop :=
  r.lane.state ≠ .silent → r.lane.state = laneStateOf limit r.lane.miss

section
variable {limit : Nat} {r : Origin}

theorem Origin.laneCurrent_of_silent (h : r.lane.state = .silent) : r.LaneCurrent limit := (absurd h ·)

/-- A lane state recomputed is current, whatever stood before. -/
theorem Origin.laneCurrent_of_restated {l : LanePart} (hs : r.lane.state = l.restated limit)
    (hm : r.lane.miss = l.miss) : r.LaneCurrent limit := by
  rw [Origin.LaneCurrent, hs, hm, LanePart.restated]
  split
  · exact (absurd rfl ·)
  · exact fun _ => rfl

theorem relane_laneCurrent (limit : Nat) (r : Origin) : (r.relane limit).LaneCurrent limit := by
  rw [Origin.relane_eq]
  exact Origin.laneCurrent_of_restated rfl rfl

theorem judge_laneCurrent (g : JudgeSettings) (k : Copy) {c : Closing} (h : c.orig.LaneCurrent g.limit) :
    (judge g k c).closing.orig.LaneCurrent g.limit := by
  by_cases hacc : (judge g k c).verdict.accepted = true
  · obtain ⟨r, d, -, -, hj⟩ := judge_accepted_closing hacc
    rw [hj]
    exact Origin.laneCurrent_of_restated rfl rfl
  · have hrow := judge_judgedBy g k c
    generalize judge g k c = j at hacc hrow
    cases hrow with
    | late => exact h
    | again => exact h
    | stale => exact h
    | twin =>
      rw [judgeTwin, Origin.clearMiss_eq]
      exact Origin.laneCurrent_of_restated rfl rfl
    | _ => exact absurd rfl hacc

theorem judgedOrigin_laneCurrent (s : State) (k : Copy) (h : r.LaneCurrent s.globals.lossLimit) :
    (judgedOrigin s k r).LaneCurrent s.globals.lossLimit := by
  obtain ⟨cfg, pipe, cnt, last, frame, silence, e, -⟩ := judgedOrigin_frame s k r
  rw [e]
  exact judge_laneCurrent (judgeSettings s.globals) k (c := ⟨s.lines, r⟩) h

theorem expirePair_laneCurrent (p : OpenPair) (lines : PerLane LinePort) (h : r.LaneCurrent limit) :
    (Closing.expirePair limit p ⟨lines, r⟩).orig.LaneCurrent limit := by
  by_cases hport : (lines.get (otherLane p.first)).unavailable = true
  · rw [expirePair_of_unavailable hport]
    exact h
  · rw [expirePair_of_available hport, Origin.chargeMiss_eq]
    exact Origin.laneCurrent_of_restated rfl rfl

theorem fallSilent_laneCurrent (limit : Nat) (c : Closing) : (c.fallSilent limit).orig.LaneCurrent limit := by
  obtain ⟨l, cnt, e, -⟩ := fallSilent_orig limit c
  rw [e]
  exact Origin.laneCurrent_of_silent rfl

end

/-! ## Effects -/

/-- What leads from one state to another keeps the lane states current. -/
def KeepsLanes (s t : State) : Prop := LaneStatesCurrent s → LaneStatesCurrent t

namespace KeepsLanes
variable {s t u : State}

theorem refl (s : State) : KeepsLanes s s := id

theorem trans (h : KeepsLanes s t) (h' : KeepsLanes t u) : KeepsLanes s u := h' ∘ h

theorem after (h' : KeepsLanes t u) (h : KeepsLanes s t) : KeepsLanes s u := h' ∘ h

/-- Nothing but the records and the loss limit matters, and records may go. -/
theorem of_subset (ho : ∀ e ∈ t.origins, e ∈ s.origins) (hg : t.globals.lossLimit = s.globals.lossLimit) :
    KeepsLanes s t := fun h e he => hg ▸ h e (ho e he)

theorem of_same (ho : t.origins = s.origins) (hg : t.globals.lossLimit = s.globals.lossLimit) : KeepsLanes s t :=
  of_subset (fun _ he => ho ▸ he) hg

theorem of_census (h : t.census = s.census) : KeepsLanes s t :=
  of_same (congrArg Census.origins h) (congrArg (·.globals.lossLimit) h)

theorem of_put {i : Nat} {r : Origin} (ho : t.origins = tabPut s.origins i r)
    (hg : t.globals.lossLimit = s.globals.lossLimit) (hr : r.LaneCurrent s.globals.lossLimit) : KeepsLanes s t := by
  intro h e he
  rw [ho] at he
  rw [hg]
  rcases mem_tabPut he with rfl | he
  · exact hr
  · exact h e he

/-- A record turned in its place may count on what it was. -/
theorem of_turn {i : Nat} {r r' : Origin} (hr : (i, r) ∈ s.origins) (ho : t.origins = tabPut s.origins i r')
    (hg : t.globals.lossLimit = s.globals.lossLimit)
    (h : r.LaneCurrent s.globals.lossLimit → r'.LaneCurrent s.globals.lossLimit) : KeepsLanes s t :=
  fun hs => of_put ho hg (h (hs _ hr)) hs

end KeepsLanes

section
variable (s : State)

/-! ## Comparison -/

theorem compareAt_keepsLanes (cause : Bool) (i : Nat) : KeepsLanes s (compareAt cause i s) := by
  unfold compareAt
  split
  · exact .refl s
  · next r hr =>
    split
    · exact .of_turn (mem_of_tabGet hr) rfl rfl id
    · exact .refl s

theorem compareEach_keepsLanes : ∀ (is : List Nat) (s : State), KeepsLanes s (compareEach is s)
  | [], s => .refl s
  | i :: is, s => (compareAt_keepsLanes s false i).trans (compareEach_keepsLanes is _)

theorem compareAll_keepsLanes : KeepsLanes s (compareAll s) := compareEach_keepsLanes _ s

theorem endEvent_keepsLanes (cause : Bool) (before : Level) (i : Nat) :
    KeepsLanes s (endEvent cause before i s) := by
  have hown := compareAt_keepsLanes s cause i
  unfold endEvent
  dsimp only
  split
  · exact hown
  · split
    · exact hown.trans (compareEach_keepsLanes _ _)
    · exact hown

/-! ## Copies and proxies -/

theorem judgeCopy_keepsLanes (created : Bool) (i : Nat) {r : Origin} (k : Copy)
    (hr : r.LaneCurrent s.globals.lossLimit) : KeepsLanes s (judgeCopy created i r k s).1 := by
  rw [judgeCopy_eq]
  exact .after (endEvent_keepsLanes _ _ _ i) (.of_put rfl rfl (judgedOrigin_laneCurrent s k hr))

theorem placeOrigin_keepsLanes {r : Origin} (hr : r.lane.state = .silent) : KeepsLanes s (placeOrigin r s) := by
  obtain ⟨k, e⟩ := toldFull_frame s
  rw [placeOrigin_eq, e]
  exact .of_put rfl rfl (Origin.laneCurrent_of_silent hr)

theorem createSilent_keepsLanes {r : Origin} (hr : r.lane.state = .silent) : KeepsLanes s (createSilent r s) :=
  (placeOrigin_keepsLanes s hr).trans (.of_same rfl rfl)

theorem removeOrigin_keepsLanes (i : Nat) : KeepsLanes s (removeOrigin i s) :=
  .of_subset (fun _ he => mem_tabErase he) rfl

theorem evictFor_keepsLanes (head : Nat) {r : Origin} (hr : r.lane.state = .silent) :
    KeepsLanes s (evictFor head r s) :=
  (removeOrigin_keepsLanes s head).trans (.of_put rfl rfl (Origin.laneCurrent_of_silent hr))

theorem filterCopy_keepsLanes (a : Addr) (k : Copy) : KeepsLanes s (filterCopy a k s).1 := by
  have created (i : Nat) (t : State) : KeepsLanes t (judgeCreated i (learnedFrom a k s) k t).1 :=
    judgeCopy_keepsLanes t true i k (Origin.laneCurrent_of_silent rfl)
  unfold filterCopy
  split
  · next i r hf => exact fun h => judgeCopy_keepsLanes s false i k (h _ (findOrigin_some hf).1) h
  · dsimp only
    split
    · exact .refl s
    · split
      · exact (placeOrigin_keepsLanes s rfl).trans (created _ _)
      · split
        · exact .refl s
        · exact (evictFor_keepsLanes s _ rfl).trans (created _ _)

theorem takeProxy_keepsLanes (n : Nat) (l : Lane) (a : Addr) : KeepsLanes s (takeProxy n l a s) := by
  unfold takeProxy
  split
  · next hf =>
    split
    · exact .of_turn (findOrigin_some hf).1 rfl rfl id
    · exact .refl s
  · split
    · exact .refl s
    · split
      · exact .of_same rfl rfl
      · exact createSilent_keepsLanes s rfl

theorem takeProxies_keepsLanes (n : Nat) (l : Lane) : ∀ (as : List Addr) (s : State),
    KeepsLanes s (takeProxies n l as s)
  | [], s => .refl s
  | a :: as, s => (takeProxy_keepsLanes s n l a).trans (takeProxies_keepsLanes n l as _)

/-! ## Frames -/

theorem deliver_keepsLanes (l : Lane) (a : Addr) (f : Frame) : KeepsLanes s (deliver l a f s) := by
  obtain ⟨n, b, k, e⟩ := deliver_frame s l a f
  exact .of_same (by rw [e]) (by rw [e])

theorem countAssurance_keepsLanes (l code : Lane) : KeepsLanes s (countAssurance l code s) := by
  obtain ⟨n, k, e⟩ := countAssurance_frame s l code
  exact .of_same (by rw [e]) (by rw [e])

theorem reported_keepsLanes (cls : TrafficClass) : KeepsLanes s (s.reported cls) := by
  obtain ⟨a, h, k, e⟩ := reported_frame cls s
  exact .of_same (by rw [e]) (by rw [e])

theorem announce_keepsLanes : KeepsLanes s (announce s) := by
  obtain ⟨n, q, e⟩ := announce_frame s
  exact .of_same (by rw [e]) (by rw [e])

theorem untagged_keepsLanes (l : Lane) (data : List Byte) : KeepsLanes s (untagged l data s) := by
  unfold untagged
  split
  · exact .of_same rfl rfl
  · exact deliver_keepsLanes s l _ _

theorem rollCallUnit_keepsLanes (i : Option Nat) (l : Lane) (t : Tagged) :
    KeepsLanes s (rollCallUnit i l t s) := by
  unfold rollCallUnit
  split
  · cases i with
    | none => exact countAssurance_keepsLanes s l t.code
    | some i => exact (takeProxies_keepsLanes i l _ s).trans (countAssurance_keepsLanes _ l t.code)
  · exact .of_same rfl rfl

theorem handOn_keepsLanes (i : Option Nat) (l : Lane) (t : Tagged) : KeepsLanes s (handOn i l t s) := by
  refine (reported_keepsLanes s t.cls).trans ?_
  unfold handOn
  dsimp only
  split
  · exact rollCallUnit_keepsLanes _ i l t
  · split
    · exact .of_same rfl rfl
    · exact deliver_keepsLanes _ l t.dest _

theorem pairFilter_keepsLanes (l : Lane) (t : Tagged) : KeepsLanes s (pairFilter l t s) := by
  unfold pairFilter
  split
  · exact .of_same rfl rfl
  · have hm := filterCopy_keepsLanes s t.source ⟨l, t.seq, s.tick⟩
    generalize filterCopy t.source ⟨l, t.seq, s.tick⟩ s = filtered at hm
    obtain ⟨s', out⟩ := filtered
    cases out with
    | overflow => exact .after (handOn_keepsLanes _ none l t) (hm.trans (.of_same rfl rfl))
    | judged i v =>
      dsimp only
      split
      · exact hm.trans (handOn_keepsLanes s' (some i) l t)
      · exact hm

theorem lineFrameEffect_keepsLanes (l : Lane) (f : RxFrame) : KeepsLanes s (lineFrameEffect l f s) := by
  unfold lineFrameEffect
  split
  · exact .refl s
  · split
    · exact .of_same rfl rfl
    · split
      · exact untagged_keepsLanes s l _
      · exact .after (untagged_keepsLanes _ l _) (.of_same rfl rfl)
      · exact pairFilter_keepsLanes s l _

/-! ## Line ports and timers -/

theorem enterProbing_keepsLanes (l : Lane) : KeepsLanes s (enterProbing l s) :=
  .after (compareAll_keepsLanes _) (.of_same rfl rfl)

theorem lineUp_keepsLanes (l : Lane) : KeepsLanes s (lineUp l s) := by
  unfold lineUp
  dsimp only
  split
  · exact .after (enterProbing_keepsLanes _ l) (.of_same rfl rfl)
  · exact .of_same rfl rfl

theorem lineLossEffect_keepsLanes (l : Lane) : KeepsLanes s (lineLossEffect l s) := by
  unfold lineLossEffect
  split
  · exact .refl s
  · dsimp only
    split <;> exact .of_same rfl rfl

theorem linkFailEffect_keepsLanes (l : Lane) : KeepsLanes s (linkFailEffect l s) := by
  unfold linkFailEffect
  split <;> exact .of_same rfl rfl

theorem lineUpEffect_keepsLanes (l : Lane) : KeepsLanes s (lineUpEffect l s) := by
  unfold lineUpEffect
  split
  · exact lineUp_keepsLanes s l
  · exact .refl s

theorem settleEffect_keepsLanes (l : Lane) : KeepsLanes s (settleEffect l s) := by
  unfold settleEffect
  split
  · exact enterProbing_keepsLanes s l
  · exact .refl s

theorem probeLimitEffect_keepsLanes (l : Lane) : KeepsLanes s (probeLimitEffect l s) := by
  unfold probeLimitEffect
  split <;> exact .of_same rfl rfl

theorem alertHoldEffect_keepsLanes : KeepsLanes s (alertHoldEffect s) := by
  unfold alertHoldEffect
  split <;> exact .of_same rfl rfl

theorem rollTimerEffect_keepsLanes : KeepsLanes s (rollTimerEffect s) := by
  unfold rollTimerEffect
  split
  · exact .refl s
  · exact announce_keepsLanes s

theorem quietEndEffect_keepsLanes : KeepsLanes s (quietEndEffect s) := by
  unfold quietEndEffect
  split
  · exact .refl s
  · exact .after (announce_keepsLanes _) (.of_same rfl rfl)

theorem pairExpiryEffect_keepsLanes (i : Nat) : KeepsLanes s (pairExpiryEffect i s) := by
  unfold pairExpiryEffect
  split
  · exact .refl s
  · next r hr =>
    split
    · exact .refl s
    · exact .after (endEvent_keepsLanes _ _ _ i)
        (.of_turn (mem_of_tabGet hr) rfl rfl (expirePair_laneCurrent _ s.lines))

theorem silenceExpiryEffect_keepsLanes (i : Nat) : KeepsLanes s (silenceExpiryEffect i s) := by
  unfold silenceExpiryEffect
  split
  · exact .refl s
  · split
    · exact .refl s
    · exact .after (endEvent_keepsLanes _ _ _ i) (.of_put rfl rfl (fallSilent_laneCurrent _ _))

theorem forgetExpiryEffect_keepsLanes (i : Nat) : KeepsLanes s (forgetExpiryEffect i s) := by
  unfold forgetExpiryEffect
  split
  · exact .refl s
  · split
    · exact .refl s
    · exact removeOrigin_keepsLanes s i

theorem holdExpiryEffect_keepsLanes (i : Nat) : KeepsLanes s (holdExpiryEffect i s) := by
  unfold holdExpiryEffect
  split
  · exact .refl s
  · next hr =>
    split
    · exact .refl s
    · exact .after (endEvent_keepsLanes _ _ _ i) (.of_turn (mem_of_tabGet hr) rfl rfl id)

end

/-! ## Apply -/

section
variable {m : Master} {s t : State}

theorem putOrigin_keepsLanes {a : Addr} {f : PutFields} (h : putOrigin m a f s = .ok t) : KeepsLanes s t := by
  unfold putOrigin at h
  split at h
  · next hf =>
    obtain ⟨hmem, -⟩ := findOrigin_some hf
    split at h
    · cases h
    · split at h
      · cases h
      · split at h
        · cases h
        · split at h
          · cases h
            exact .of_turn hmem rfl rfl id
          · cases h
            exact .of_turn hmem rfl rfl id
  · split at h
    · cases h
    · split at h
      · cases h
      · split at h
        · cases h
        · cases h
          exact createSilent_keepsLanes s rfl

theorem deleteOrigin_keepsLanes {a : Addr} (h : deleteOrigin m a s = .ok t) : KeepsLanes s t := by
  unfold deleteOrigin at h
  split at h
  · cases h
  · next hf =>
    split at h
    · cases h
    · split at h
      · cases h
      · dsimp only at h
        split at h
        · cases h
          exact .of_turn (findOrigin_some hf).1 rfl rfl id
        · split at h
          · cases h
          · cases h
            exact removeOrigin_keepsLanes s _

theorem shareOrigin_keepsLanes {a : Addr} (h : shareOrigin m a s = .ok t) : KeepsLanes s t := by
  unfold shareOrigin at h
  split at h
  · cases h
  · next hf =>
    split at h
    · cases h
    · split at h
      · cases h
      · cases h
        exact .of_turn (findOrigin_some hf).1 rfl rfl id

theorem relaneAll_laneStatesCurrent (s : State) : LaneStatesCurrent (relaneAll s) := by
  intro e he
  obtain ⟨r, -, hr⟩ := mem_tabMap he
  rw [hr]
  exact relane_laneCurrent s.globals.lossLimit r

theorem put_lossLimit {g : GlobalSetting} (hg : g ≠ .lossLimit) (v1 v2 v3 : Nat) (x : Globals) :
    (x.put v1 v2 v3 g).lossLimit = x.lossLimit := by
  cases g with
  | lossLimit => exact absurd rfl hg
  | _ => rfl

/-- A put of the loss limit recomputes every record (R75); another one leaves the limit. -/
theorem putGlobal_keepsLanes {g : GlobalSetting} {v1 v2 v3 : Nat} (h : putGlobal g v1 v2 v3 s = .ok t) :
    KeepsLanes s t := by
  unfold putGlobal at h
  split at h
  · cases h
  · cases h
    split
    · exact fun _ => relaneAll_laneStatesCurrent _
    · next hg => exact .of_same rfl (put_lossLimit hg ..)

theorem commitItem_keepsLanes {it : Item} {c : Bool} (h : commitItem m it s = .ok (t, c)) : KeepsLanes s t := by
  have ok_of_map {x : Except RefusalReason State} {b : Bool} (h : (x.map fun s' => (s', b)) = .ok (t, c)) :
      x = .ok t := by
    cases x with
    | error e => cases h
    | ok u => cases h; rfl
  cases it with
  | originPut a f => exact putOrigin_keepsLanes (ok_of_map h)
  | originDelete a => exact deleteOrigin_keepsLanes (ok_of_map h)
  | originShare a => exact shareOrigin_keepsLanes (ok_of_map h)
  | groupJoin a cls =>
    obtain ⟨g, e⟩ := joinGroup_frame (ok_of_map h)
    exact .of_same (by rw [e]) (by rw [e])
  | groupLeave a =>
    cases h
    obtain ⟨g, e⟩ := leaveGroup_frame s m a
    exact .of_same (by rw [e]) (by rw [e])
  | globalPut g v1 v2 v3 => exact putGlobal_keepsLanes (ok_of_map h)
  | bayPut b v => cases h; exact .of_same rfl rfl

theorem commitItems_keepsLanes : ∀ {its : List Item} {n first first' : Nat} {s : State},
    commitItems m its n first s = .ok (t, first') → KeepsLanes s t
  | [], _, _, _, _, h => by cases h; exact .refl _
  | it :: its, n, first, first', s, h => by
    simp only [commitItems] at h
    split at h
    · cases h
    · next hc => exact (commitItem_keepsLanes hc).trans (commitItems_keepsLanes h)

variable (s)

theorem takeApply_keepsLanes (m : Master) : KeepsLanes s (takeApply m s) := by
  unfold takeApply
  dsimp only
  split
  · exact .of_same rfl rfl
  · next hc =>
    exact ((commitItems_keepsLanes hc).trans (compareAll_keepsLanes _)).trans (.of_same rfl rfl)

theorem applyTakenEffect_keepsLanes : KeepsLanes s (applyTakenEffect s) := by
  unfold applyTakenEffect
  split
  · exact takeApply_keepsLanes s .m1
  · split
    · exact takeApply_keepsLanes s .m2
    · exact .refl s

/-! ## Start-up -/

/-- Every record of a loaded set is Silent (R54). -/
theorem loadSet_laneStatesCurrent (c : SetContent) : LaneStatesCurrent (loadSet c s) := by
  intro e he
  obtain ⟨x, -, hx⟩ := mem_tabMap he
  rw [hx]
  exact (absurd rfl ·)

theorem loadStart_laneStatesCurrent : LaneStatesCurrent (loadStart s) := by
  unfold loadStart
  dsimp only
  split
  · exact loadSet_laneStatesCurrent _ _
  · split
    · exact loadSet_laneStatesCurrent _ _
    · exact loadSet_laneStatesCurrent { s with set1 := s.set1.check, set2 := s.set2.check } factorySet

theorem readPhys_keepsLanes (phys : Phys) (s : State) : KeepsLanes s (readPhys phys s) := by
  have line (b : Bool) (l : Lane) (s : State) : KeepsLanes s (if b then lineUp l s else s) := by
    split
    · exact lineUp_keepsLanes s l
    · exact .refl s
  have bay (b : Bool) (m : Master) (s : State) : KeepsLanes s (if b then bayUpEffect m s else s) := by
    split <;> exact .of_same rfl rfl
  unfold readPhys
  exact .after (bay _ .m2 _) (.after (bay _ .m1 _) (.after (line _ .b _) (line _ .a _)))

theorem startQuiet_keepsLanes : KeepsLanes s (startQuiet s) := by
  unfold startQuiet
  split
  · exact announce_keepsLanes s
  · exact .of_same rfl rfl

/-- Start-up leaves current lane states, whatever stood before. -/
theorem startUp_laneStatesCurrent (phys : Phys) : LaneStatesCurrent (startUp phys s) := by
  unfold startUp
  exact startQuiet_keepsLanes _ (readPhys_keepsLanes phys _ (loadStart_laneStatesCurrent (clearRuntime s)))

end

/-! ## Commands -/

theorem LinkStep.keepsLanes {m : Master} {s t : State} (h : LinkStep m s t) : KeepsLanes s t :=
  .of_same h.origins (congrArg Globals.lossLimit h.globals)

theorem exec_keepsLanes {c : Instr} {s t : State} (h : exec c s = .next t) : KeepsLanes s t := by
  cases hlink : c.link with
  | some m => exact (exec_linkStep hlink h).keepsLanes
  | none =>
    cases c with
    | powerOn p => cases h; exact fun _ => startUp_laneStatesCurrent _ p
    | resetPin p => cases h; exact fun _ => startUp_laneStatesCurrent _ p
    | restartTakesEffect p =>
      cases h
      unfold restartTakesEffect
      split
      · exact fun _ => startUp_laneStatesCurrent _ p
      · exact .refl s
    | saveCompletion v =>
      cases h
      obtain ⟨m, hm⟩ := saveCompletionEffect_linkStep s v
      exact hm.keepsLanes
    | startQuietEnd => cases h; exact quietEndEffect_keepsLanes s
    | lineFrameReceive l f => cases h; exact lineFrameEffect_keepsLanes s l f
    | bayFrameReceive m f =>
      cases h
      obtain ⟨n, b, a, d, k, e⟩ := bayFrameEffect_frame s m f
      exact .of_same (by rw [e]) (by rw [e])
    | bayLinkUp m => cases h; exact .of_same rfl rfl
    | bayLinkDown m => cases h; exact .of_census (bayDownEffect_census s m)
    | lineLinkLoss l => cases h; exact lineLossEffect_keepsLanes s l
    | glitch l => cases h; exact .of_census (glitchEffect_census s l)
    | linkFailExpiry l => cases h; exact linkFailEffect_keepsLanes s l
    | lineLinkUp l => cases h; exact lineUpEffect_keepsLanes s l
    | settleExpiry l => cases h; exact settleEffect_keepsLanes s l
    | probeLimitExpiry l => cases h; exact probeLimitEffect_keepsLanes s l
    | rollCallTimerExpiry => cases h; exact rollTimerEffect_keepsLanes s
    | lineTransmitStart l => cases h; exact .of_census (lineTransmitEffect_census s l)
    | lineTransmitDone l => cases h; exact .of_same rfl rfl
    | bayTransmitStart m => cases h; exact .of_census (bayTransmitEffect_census s m)
    | bayTransmitDone m => cases h; exact .of_same rfl rfl
    | pacingTimerExpiry m => cases h; exact .of_census (pacingEffect_census s m)
    | pairExpiry i => cases h; exact pairExpiryEffect_keepsLanes s i
    | silenceExpiry i => cases h; exact silenceExpiryEffect_keepsLanes s i
    | forgetExpiry i => cases h; exact forgetExpiryEffect_keepsLanes s i
    | holdExpiry i => cases h; exact holdExpiryEffect_keepsLanes s i
    | alertHoldExpiry => cases h; exact alertHoldEffect_keepsLanes s
    | secondsTick => cases h; exact .of_same rfl rfl
    | applyTaken => cases h; exact applyTakenEffect_keepsLanes s
    | _ => cases hlink

/-- Settles O11: each command keeps the lane states current, effect by effect, and neither clock nor queue matters. -/
theorem laneStatesFollowMissRuns : Obligations.LaneStatesFollowMissRuns :=
  fun _ _ h hs => step_preserves (I := LaneStatesCurrent) (fun _ _ _ h => h) (fun _ _ _ h he => exec_keepsLanes he h) h hs

end Sys2Proof.Machine
end

section
/-! SUPPORT. The arithmetic of skew supervision (R81 to R86): the sample and its working value, the spike clamp, and the
steps of the filter and of the baseline, each a fraction of the way. -/

namespace Sys2Proof.Machine

/-! ## Samples (R81, R82) -/

theorem toNat_elapsed (t1 t2 : Tick) :
    (t2 - t1).toNat = (t2.toNat + 4294967296 - t1.toNat) % 4294967296 := by
  rw [BitVec.toNat_sub]
  omega

theorem saturates_iff (s : Int) : saturates s = true ↔ 32767 < s.natAbs := by
  rw [saturates, Bool.or_eq_true, decide_eq_true_eq, decide_eq_true_eq, Config.maxSample]
  omega

theorem workingValue_of_le {s : Int} (h : s.natAbs ≤ 32767) : workingValue s = 16 * s := by
  simp only [workingValue, clampMag, Config.maxSample]
  omega

theorem workingValue_of_gt {s : Int} (h : 32767 < s) : workingValue s = 524272 := by
  simp only [workingValue, clampMag, Config.maxSample]
  omega

theorem workingValue_of_lt {s : Int} (h : s < -32767) : workingValue s = -524272 := by
  simp only [workingValue, clampMag, Config.maxSample]
  omega

/-! ## Values in range (R79) -/

theorem skewFits_clampMag (v : Int) : skewFits (clampMag Config.maxSkew v) := by
  simp only [skewFits, clampMag, Config.maxSkew]
  omega

theorem skewFits_zero : skewFits 0 := by
  simp only [skewFits, Config.maxSkew]
  omega

theorem skewFits_workingValue (s : Int) : skewFits (workingValue s) := by
  simp only [skewFits, workingValue, clampMag, Config.maxSample, Config.maxSkew]
  omega

/-! ## The spike clamp (R84) -/

section
variable {cfg : OriginSettings} {f v : Int}

theorem spikeClamp_above (hhi : cfg.hi = true) (h : f + 16 * cfg.spike < v) :
    spikeClamp cfg f v = (f + 16 * cfg.spike, true) :=
  if_pos ⟨hhi, h⟩

theorem spikeClamp_below (hlo : cfg.lo = true) (h : v < f - 16 * cfg.spike) :
    spikeClamp cfg f v = (f - 16 * cfg.spike, true) := by
  unfold spikeClamp
  rw [if_neg (by omega), if_pos ⟨hlo, h⟩]

theorem spikeClamp_within (hhi : cfg.hi = false ∨ v ≤ f + 16 * cfg.spike)
    (hlo : cfg.lo = false ∨ f - 16 * cfg.spike ≤ v) : spikeClamp cfg f v = (v, false) := by
  unfold spikeClamp
  rw [if_neg ?above, if_neg ?below]
  case above =>
    rintro ⟨h, hv⟩
    exact hhi.elim (fun h' => Bool.noConfusion (h'.symm.trans h)) (not_le.2 hv)
  case below =>
    rintro ⟨h, hv⟩
    exact hlo.elim (fun h' => Bool.noConfusion (h'.symm.trans h)) (not_le.2 hv)

end

/-! ## Steps (R85, R86) -/

/-- A baseline step is a filter step with its own exponent. -/
theorem baselineStep_eq_filterStep (n : Nat) (f v : Int) : baselineStep n f v = filterStep n f v := rfl

section
variable (n : Nat) {f v : Int}

theorem two_pow_pos : (0 : Int) < (2 ^ n : Nat) := Int.natCast_pos.2 (Nat.two_pow_pos n)

theorem filterStep_sub (f v : Int) : filterStep n f v - f = (v - f) / (2 ^ n : Nat) := by
  rw [filterStep, add_sub_cancel_left]

/-- The step is the difference over the divisor, rounded toward minus infinity. -/
theorem filterStep_floor (f v : Int) : (2 ^ n : Nat) * (filterStep n f v - f) ≤ v - f ∧
    v - f < (2 ^ n : Nat) * (filterStep n f v - f + 1) := by
  rw [filterStep_sub, mul_add_one]
  exact ⟨Int.mul_ediv_self_le (two_pow_pos n).ne', Int.lt_mul_ediv_self_add (two_pow_pos n)⟩

theorem filterStep_upward (h : f ≤ v) : f ≤ filterStep n f v ∧ filterStep n f v ≤ v := by
  have hstep := filterStep_sub n f v
  have hnonneg : 0 ≤ (v - f) / (2 ^ n : Nat) := Int.ediv_nonneg (by omega) (two_pow_pos n).le
  have hle : (v - f) / (2 ^ n : Nat) ≤ v - f := Int.ediv_le_self _ (by omega)
  omega

theorem filterStep_downward (h : v < f) : v ≤ filterStep n f v ∧ filterStep n f v < f := by
  have hstep := filterStep_sub n f v
  have hneg : (v - f) / (2 ^ n : Nat) < 0 := Int.ediv_neg_of_neg_of_pos (by omega) (two_pow_pos n)
  have hge : v - f ≤ (v - f) / (2 ^ n : Nat) :=
    (Int.le_ediv_iff_mul_le (two_pow_pos n)).2 (by nlinarith [two_pow_pos n])
  omega

theorem filterStep_self (f : Int) : filterStep n f f = f := by
  rw [filterStep, sub_self, Int.zero_ediv, add_zero]

/-- A value above by less than the divisor is not approached. -/
theorem filterStep_stalls (h : 0 ≤ v - f) (hlt : v - f < (2 ^ n : Nat)) : filterStep n f v = f := by
  rw [filterStep, Int.ediv_eq_zero_of_lt h hlt, add_zero]

theorem filterStep_zero (f v : Int) : filterStep 0 f v = v := by
  rw [filterStep, pow_zero, Nat.cast_one, Int.ediv_one, add_sub_cancel]

/-- A step between two values in range stays in range. -/
theorem skewFits_filterStep (hf : skewFits f) (hv : skewFits v) : skewFits (filterStep n f v) := by
  obtain ⟨hf1, hf2⟩ := hf
  obtain ⟨hv1, hv2⟩ := hv
  rcases le_or_gt f v with h | h
  · obtain ⟨h1, h2⟩ := filterStep_upward n h
    exact ⟨hf1.trans h1, h2.trans hv2⟩
  · obtain ⟨h1, h2⟩ := filterStep_downward n h
    exact ⟨hv1.trans h1, h2.le.trans hf2⟩

end

/-- Settles O34, formula by formula; a baseline step is a filter step. -/
theorem sampleClampFilterAndBaselineSteps : Obligations.SampleClampFilterAndBaselineSteps := by
  refine ⟨fun t1 t2 => ?_, fun s => ?_, fun cfg f v => ?_, fun n f v x hx => ?_⟩
  · exact ⟨congrArg Nat.cast (toNat_elapsed t1 t2), congrArg (fun k : Nat => -(k : Int)) (toNat_elapsed t1 t2)⟩
  · exact ⟨saturates_iff s, workingValue_of_le, workingValue_of_gt, workingValue_of_lt⟩
  · exact ⟨spikeClamp_above, spikeClamp_below, spikeClamp_within⟩
  · rw [baselineStep_eq_filterStep, or_self] at hx
    subst hx
    obtain ⟨hfloor, hceil⟩ := filterStep_floor n f v
    refine ⟨hfloor, hceil, filterStep_upward n, fun h => ?_, fun h => (filterStep_downward n h).2,
      filterStep_stalls n, ?_⟩
    · rcases h.lt_or_eq with h | rfl
      · obtain ⟨h1, h2⟩ := filterStep_downward n h
        exact ⟨h1, h2.le⟩
      · rw [filterStep_self]
        exact ⟨le_rfl, le_rfl⟩
    · rintro rfl
      exact filterStep_zero f v

end Sys2Proof.Machine
end

section
/-! SUPPORT. Levels, their debounce and the hold timer (R93, R94, R96). -/

namespace Sys2Proof.Machine

/-! ## The candidate (R93) -/

theorem Level.low_iff (l : Level) : l.high = false ↔ l = .steady ∨ l = .drift := by
  cases l <;> decide

/-- A deviation qualifies for a level above Steady by its threshold, less the band at or below the current level. -/
def Reaches (band : HysteresisBand) (current : Level) (dev : Int) (rank t : Nat) : Prop :=
  if current.rank < rank then 16 * t ≤ dev.natAbs else 16 * t ≤ dev.natAbs + bandOf band t

section
variable (band : HysteresisBand) (cfg : OriginSettings) (current : Level) (dev : Int)

theorem qualifies_of_rise {l : Level} (h : l ≠ .steady) : qualifies band cfg current dev l = true ↔
    Reaches band current dev l.rank (thresholdOf cfg l) := by
  have hsplit (rank t : Nat) : (if current.rank < rank then decide (16 * t ≤ dev.natAbs)
      else decide (16 * t ≤ dev.natAbs + bandOf band t)) = true ↔ Reaches band current dev rank t := by
    unfold Reaches
    split <;> exact decide_eq_true_iff
  cases l with
  | steady => exact absurd rfl h
  | drift => exact hsplit _ _
  | excess => exact hsplit _ _
  | gross => exact hsplit _ _

/-- The candidate qualifies. -/
theorem qualifies_candidateOf : qualifies band cfg current dev (candidateOf band cfg current dev) = true := by
  unfold candidateOf
  split
  · assumption
  · split
    · assumption
    · split
      · assumption
      · rfl

/-- No level above the candidate qualifies. -/
theorem rank_le_candidateOf {l : Level} (h : qualifies band cfg current dev l = true) :
    l.rank ≤ (candidateOf band cfg current dev).rank := by
  have hrank (l : Level) : l.rank ≤ 3 := by cases l <;> decide
  unfold candidateOf
  split
  · exact hrank l
  · next hgross =>
    split
    · cases l with
      | gross => exact absurd h hgross
      | _ => decide
    · next hexcess =>
      split
      · cases l with
        | gross => exact absurd h hgross
        | excess => exact absurd h hexcess
        | _ => decide
      · next hdrift =>
        cases l with
        | gross => exact absurd h hgross
        | excess => exact absurd h hexcess
        | drift => exact absurd h hdrift
        | steady => decide

end

/-! ## Debounce (R94) -/

/-- The count after a pair: one more up to C for the held candidate, and 1 for another. -/
def debounceCount (c : Nat) (x held : Level) (count : Nat) : Nat :=
  if x = held then (if count < c then count + 1 else count) else 1

theorem debounce_eq (c : Nat) (x : Level) (p : Pipeline) : debounce c x p =
    if c ≤ debounceCount c x p.cand p.candCount ∧ x ≠ p.level then { p with cand := x, level := x, candCount := 0 }
    else { p with cand := x, candCount := debounceCount c x p.cand p.candCount } := by
  unfold debounce debounceCount
  by_cases h : x = p.cand
  · subst h
    rw [if_pos rfl, if_pos rfl]
  · rw [if_neg h, if_neg h]

/-- The debounce moves the held candidate, its count and the level, and nothing else. -/
theorem debounce_frame (c : Nat) (x : Level) (p : Pipeline) :
    ∃ l n, debounce c x p = { p with cand := x, level := l, candCount := n } := by
  rw [debounce_eq]
  split <;> exact ⟨_, _, rfl⟩

/-- A candidate other than the held one begins its count, and with C of 2 or more moves no level. -/
theorem debounce_of_new {c : Nat} (hc : 2 ≤ c) {x : Level} {p : Pipeline} (h : x ≠ p.cand) :
    debounce c x p = { p with cand := x, candCount := 1 } := by
  have hcount : debounceCount c x p.cand p.candCount = 1 := if_neg h
  rw [debounce_eq, hcount, if_neg fun hreach => absurd hreach.1 (by omega)]

/-- Candidates that alternate never reach the count. -/
theorem debounce_alternating {c : Nat} (hc : 2 ≤ c) {x y : Level} (hxy : x ≠ y) (n : Nat) : ∀ p : Pipeline,
    p.cand ≠ x → ((List.replicate n [x, y]).flatten.foldl (fun q z => debounce c z q) p).level = p.level := by
  induction n with
  | zero => exact fun _ _ => rfl
  | succ n ih =>
    intro p hp
    have hx : debounce c x p = { p with cand := x, candCount := 1 } := debounce_of_new hc hp.symm
    have hy : debounce c y { p with cand := x, candCount := 1 } = { p with cand := y, candCount := 1 } :=
      debounce_of_new hc hxy.symm
    rw [List.replicate_succ, List.flatten_cons, List.foldl_append, List.foldl_cons, List.foldl_cons, List.foldl_nil,
      hx, hy, ih _ hxy.symm]

/-! ## The hold timer (R96) -/

theorem holdStage_of_low {cfg : OriginSettings} {before : Level} {p : Pipeline} (h : p.level.high = false) :
    holdStage cfg before p = { p with hold := none } := if_pos h

theorem holdStage_eq (cfg : OriginSettings) (before : Level) (p : Pipeline) : holdStage cfg before p =
    if p.level = .steady ∨ p.level = .drift then { p with hold := none }
    else if cfg.mode = .auto ∧ (before = .steady ∨ before = .drift) then { p with hold := some cfg.hold }
    else p := by
  simp only [holdStage, Level.low_iff]

/-- The hold stage moves the hold timer, and nothing else. -/
theorem holdStage_frame (cfg : OriginSettings) (before : Level) (p : Pipeline) :
    holdStage cfg before p = { p with hold := (holdStage cfg before p).hold } := by
  rw [holdStage_eq]
  split
  · rfl
  · split <;> rfl

theorem holdStage_hold (cfg : OriginSettings) (before : Level) (p : Pipeline) : (holdStage cfg before p).hold =
    if p.level = .steady ∨ p.level = .drift then none
    else if cfg.mode = .auto ∧ (before = .steady ∨ before = .drift) then some cfg.hold
    else p.hold := by
  rw [holdStage_eq]
  split
  · rfl
  · split <;> rfl

/-- Settles O36, part by part: the candidate, the debounce, the alternation, the hold timer. -/
theorem levelsFollowCandidateAndDebounce : Obligations.LevelsFollowCandidateAndDebounce := by
  refine ⟨fun band cfg cur dev => ?_, debounce_eq, fun c x y p n hc hxy hp => debounce_alternating hc hxy n p hp,
    holdStage_eq⟩
  intro width qual
  have hqual (l : Level) : qual l ↔ qualifies band cfg cur dev l = true := by
    cases l with
    | steady => exact iff_of_true trivial rfl
    | drift => exact (qualifies_of_rise band cfg cur dev (l := .drift) nofun).symm
    | excess => exact (qualifies_of_rise band cfg cur dev (l := .excess) nofun).symm
    | gross => exact (qualifies_of_rise band cfg cur dev (l := .gross) nofun).symm
  exact ⟨(hqual _).2 (qualifies_candidateOf ..), fun l hl => rank_le_candidateOf _ _ _ _ ((hqual l).1 hl)⟩

end Sys2Proof.Machine
end

section
/-! SUPPORT. The pipeline after a completed pair (R80 to R96), in two equations: the stages that seed or filter and set
the baseline, and the later ones that show, classify and time the deviation. -/

namespace Sys2Proof.Machine

/-! ## Stages 1 to 4 (R83 to R88) -/

/-- The level a pair starts from: Steady at a seeding pair (R83). -/
def Pipeline.before (p : Pipeline) : Level := if p.seeded then p.level else .steady

/-- The candidate held before a pair. -/
def Pipeline.heldCand (p : Pipeline) : Level := if p.seeded then p.cand else .steady

/-- The candidate count before a pair. -/
def Pipeline.heldCount (p : Pipeline) : Nat := if p.seeded then p.candCount else 0

/-- The filtered skew after a pair of sample `s`. -/
def Pipeline.nextFiltered (cfg : OriginSettings) (s : Int) (p : Pipeline) : Int :=
  if p.seeded then
    filterStep cfg.k p.filtered (clampMag Config.maxSkew (spikeClamp cfg p.filtered (workingValue s)).1)
  else workingValue s

/-- The pipeline after stages 1 to 4 of a pair of sample `s`. -/
def Pipeline.staged (cfg : OriginSettings) (s : Int) (p : Pipeline) : Pipeline :=
  if p.seeded = false then p.seedAt cfg (workingValue s)
  else baselineStage cfg { p with filtered := p.nextFiltered cfg s }

/-- The counters after a pair of sample `s`, which the spike clamp altered or not (R82, R84). -/
def OriginCounts.sampled (s : Int) (spiked : Bool) (c : OriginCounts) : OriginCounts :=
  { c with saturated := c.saturated + (if 32767 < s.natAbs then 1 else 0),
           spikes := c.spikes + (if spiked = true then 1 else 0) }

/-- A completed pair, stage by stage (R80). -/
theorem processPair_eq (band : HysteresisBand) (lead : Option Int) (first : Lane) (t1 t2 : Tick) (r : Origin) :
    let s := skewSample first t1 t2
    let p := r.pipe.staged r.cfg s
    processPair band lead first t1 t2 r =
      ({ r with
          cnt := r.cnt.sampled s (r.pipe.seeded && (spikeClamp r.cfg r.pipe.filtered (workingValue s)).2),
          pipe := laterStages band r.cfg lead r.pipe.before p,
          cfg := capturedSettings r.cfg p },
        decide (r.cfg.mode = .capture)) := by
  intro s p
  have hsat : (if saturates s then { r.cnt with saturated := r.cnt.saturated + 1 } else r.cnt) =
      r.cnt.sampled s false := by
    simp only [saturates_iff, OriginCounts.sampled]
    split <;> simp
  have hspike (b : Bool) : (if b = true then { r.cnt.sampled s false with spikes := (r.cnt.sampled s false).spikes + 1 }
      else r.cnt.sampled s false) = r.cnt.sampled s b := by
    cases b <;> simp [OriginCounts.sampled]
  unfold processPair
  dsimp only
  rw [hsat]
  by_cases hseed : r.pipe.seeded = false
  · have hp : p = r.pipe.seedAt r.cfg (workingValue s) := if_pos hseed
    have hbefore : r.pipe.before = .steady := if_neg (by simp [hseed])
    rw [hp, hbefore, if_pos hseed, hseed, Bool.false_and]
  · have hseeded : r.pipe.seeded = true := by simpa using hseed
    have hp : p = baselineStage r.cfg { r.pipe with filtered := r.pipe.nextFiltered r.cfg s } := if_neg hseed
    have hbefore : r.pipe.before = r.pipe.level := if_pos hseeded
    have hfiltered : r.pipe.nextFiltered r.cfg s = _ := if_pos hseeded
    have hspiked (b : Bool) : (r.pipe.seeded && b) = b := by rw [hseeded, Bool.true_and]
    rw [hp, hbefore, hfiltered, hspiked, if_neg hseed, hspike]

section
variable (cfg : OriginSettings) (s : Int) (p : Pipeline)

/-- Stages 1 to 4 move the filtered skew, the baseline and the decimation, and a seeding pair the level. -/
theorem staged_frame : p.staged cfg s =
    { p with
      seeded := true, filtered := p.nextFiltered cfg s, baseline := (p.staged cfg s).baseline,
      decim := (p.staged cfg s).decim, level := p.before, cand := p.heldCand, candCount := p.heldCount } := by
  obtain ⟨seeded, filtered, baseline, raw, dev, dir, level, cand, count, decim, hold⟩ := p
  obtain ⟨mode⟩ := cfg
  cases seeded with
  | false => cases mode <;> rfl
  | true =>
    rw [Pipeline.staged, if_neg (by simp)]
    unfold baselineStage
    cases mode with
    | auto =>
      dsimp only
      split
      · split <;> rfl
      · rfl
    | _ => rfl

@[simp] theorem staged_seeded : (p.staged cfg s).seeded = true := by rw [staged_frame]

@[simp] theorem staged_filtered : (p.staged cfg s).filtered = p.nextFiltered cfg s := by rw [staged_frame]

@[simp] theorem staged_level : (p.staged cfg s).level = p.before := by rw [staged_frame]

@[simp] theorem staged_cand : (p.staged cfg s).cand = p.heldCand := by rw [staged_frame]

@[simp] theorem staged_candCount : (p.staged cfg s).candCount = p.heldCount := by rw [staged_frame]

@[simp] theorem staged_hold : (p.staged cfg s).hold = p.hold := by rw [staged_frame]

end

section
variable {cfg : OriginSettings} (s : Int) {p : Pipeline}

/-- Off and Manual leave the baseline (R88, R89). -/
theorem staged_baseline_kept (h : cfg.mode = .off ∨ cfg.mode = .manual) : (p.staged cfg s).baseline = p.baseline := by
  unfold Pipeline.staged Pipeline.seedAt baselineStage
  rcases h with h | h
  · rw [h]; split <;> rfl
  · rw [h]; split <;> rfl

/-- Capture takes the filtered skew (R87). -/
theorem staged_baseline_capture (h : cfg.mode = .capture) : (p.staged cfg s).baseline = p.nextFiltered cfg s := by
  unfold Pipeline.staged Pipeline.seedAt baselineStage Pipeline.nextFiltered
  rw [h]
  cases hp : p.seeded <;> rfl

theorem staged_of_unseeded (h : p.seeded = false) : p.staged cfg s = p.seedAt cfg (workingValue s) := if_pos h

theorem staged_of_seeded (h : p.seeded = true) :
    p.staged cfg s = baselineStage cfg { p with filtered := p.nextFiltered cfg s } := if_neg (by simp [h])

/-- A seeding pair restarts the decimation, and in Auto takes its value as the baseline (R83). -/
theorem seedAt_decim (v : Int) : (p.seedAt cfg v).decim = 0 := by
  unfold Pipeline.seedAt
  cases cfg.mode <;> rfl

theorem seedAt_baseline_auto (h : cfg.mode = .auto) (v : Int) : (p.seedAt cfg v).baseline = v := by
  rw [Pipeline.seedAt, h]

theorem baselineStage_decim_kept (h : cfg.mode ≠ .auto) : (baselineStage cfg p).decim = p.decim := by
  unfold baselineStage
  cases hm : cfg.mode with
  | auto => exact absurd hm h
  | _ => rfl

theorem baselineStage_waits (h : cfg.mode = .auto) (hd : p.decim + 1 < cfg.m) :
    baselineStage cfg p = { p with decim := p.decim + 1 } := by
  rw [baselineStage, h]
  exact if_neg (by omega)

/-- When the decimation falls due, Auto steps its baseline unless the level is high (R86). -/
theorem baselineStage_due (h : cfg.mode = .auto) (hd : cfg.m ≤ p.decim + 1) : baselineStage cfg p =
    { p with decim := 0, baseline := if p.level = .excess ∨ p.level = .gross then p.baseline
                                     else baselineStep cfg.j p.baseline p.filtered } := by
  rw [baselineStage, h]
  simp only [if_pos hd, Level.high_iff]
  split <;> rfl

end

/-! ## Stages 5 to 7 (R89 to R96) -/

/-- What a member takes off for its lead (R91). -/
def leadShare (weight : Nat) (lead : Option Int) : Int :=
  match lead with
  | some x => x * weight / 64
  | none => 0

section
variable {cfg : OriginSettings} (band : HysteresisBand) (lead : Option Int) (before : Level) (p : Pipeline)

theorem laterStages_of_off (h : cfg.mode = .off) :
    laterStages band cfg lead before p = { p.offValues with hold := none } := by
  rw [laterStages, if_pos h, holdStage_of_low rfl]

/-- The shown values before the classification (R90 to R92). -/
def Pipeline.shown (cfg : OriginSettings) (lead : Option Int) (p : Pipeline) : Pipeline :=
  let raw := p.filtered - p.baseline
  let dev := clampMag Config.maxSkew (raw - leadShare cfg.weight lead)
  { p with raw := raw, dev := dev, dir := directionOf dev }

theorem deviateAndClassify_eq : deviateAndClassify band cfg lead p =
    debounce cfg.c (candidateOf band cfg p.level (p.shown cfg lead).dev) (p.shown cfg lead) := by
  cases lead with
  | none => simp only [deviateAndClassify, Pipeline.shown, leadShare, sub_zero]
  | some x => rfl

theorem laterStages_of_on (h : cfg.mode ≠ .off) : laterStages band cfg lead before p =
    holdStage cfg before
      (debounce cfg.c (candidateOf band cfg p.level (p.shown cfg lead).dev) (p.shown cfg lead)) := by
  rw [laterStages, if_neg h, deviateAndClassify_eq]

/-- Outside Off the later stages show the deviation, classify it and time the level. -/
theorem laterStages_on (h : cfg.mode ≠ .off) :
    let q := laterStages band cfg lead before p
    let x := candidateOf band cfg p.level q.dev
    let n := debounceCount cfg.c x p.cand p.candCount
    q.raw = p.filtered - p.baseline ∧ q.dev = clampMag Config.maxSkew (q.raw - leadShare cfg.weight lead) ∧
    q.dir = directionOf q.dev ∧ q.cand = x ∧
    (cfg.c ≤ n ∧ x ≠ p.level → q.level = x ∧ q.candCount = 0) ∧
    (¬ (cfg.c ≤ n ∧ x ≠ p.level) → q.level = p.level ∧ q.candCount = n) ∧
    q.hold = (if q.level = .steady ∨ q.level = .drift then none
              else if cfg.mode = .auto ∧ (before = .steady ∨ before = .drift) then some cfg.hold
              else p.hold) := by
  have hold (d : Pipeline) (hd : d.hold = p.hold) := hd ▸ holdStage_hold cfg before d
  rw [laterStages_of_on band lead before p h, debounce_eq]
  split
  · next hmoves =>
    rw [holdStage_frame]
    exact ⟨rfl, rfl, rfl, rfl, fun _ => ⟨rfl, rfl⟩, fun hno => absurd hmoves hno, hold _ rfl⟩
  · next hstays =>
    rw [holdStage_frame]
    exact ⟨rfl, rfl, rfl, rfl, fun hyes => absurd hyes hstays, fun _ => ⟨rfl, rfl⟩, hold _ rfl⟩

/-- The later stages leave the filtered skew, the baseline, the decimation and the seeding. -/
theorem laterStages_frame (cfg : OriginSettings) : ∃ raw dev dir level cand count hold,
    laterStages band cfg lead before p =
    { p with raw := raw, dev := dev, dir := dir, level := level, cand := cand, candCount := count, hold := hold } := by
  by_cases h : cfg.mode = .off
  · rw [laterStages_of_off band lead before p h]
    exact ⟨_, _, _, _, _, _, _, rfl⟩
  · obtain ⟨l, n, e⟩ := debounce_frame cfg.c (candidateOf band cfg p.level (p.shown cfg lead).dev) (p.shown cfg lead)
    rw [laterStages_of_on band lead before p h, e, holdStage_frame]
    exact ⟨_, _, _, _, _, _, _, rfl⟩

@[simp] theorem laterStages_seeded : (laterStages band cfg lead before p).seeded = p.seeded := by
  obtain ⟨_, _, _, _, _, _, _, e⟩ := laterStages_frame band lead before p cfg
  rw [e]

@[simp] theorem laterStages_filtered : (laterStages band cfg lead before p).filtered = p.filtered := by
  obtain ⟨_, _, _, _, _, _, _, e⟩ := laterStages_frame band lead before p cfg
  rw [e]

@[simp] theorem laterStages_baseline : (laterStages band cfg lead before p).baseline = p.baseline := by
  obtain ⟨_, _, _, _, _, _, _, e⟩ := laterStages_frame band lead before p cfg
  rw [e]

@[simp] theorem laterStages_decim : (laterStages band cfg lead before p).decim = p.decim := by
  obtain ⟨_, _, _, _, _, _, _, e⟩ := laterStages_frame band lead before p cfg
  rw [e]

end

/-! ## The pair by baseline mode -/

/-- Settles O35: the stages up to the baseline by mode and seeding, and then the later ones, which leave what those
set. -/
theorem pairMovesThePipelineByMode : Obligations.PairMovesThePipelineByMode := by
  intro band lead first t1 t2 r
  rw [processPair_eq]
  intro out q p s cl
  have hseeded : q.seeded = true := (laterStages_seeded ..).trans (staged_seeded ..)
  have hfiltered : q.filtered = p.nextFiltered r.cfg s := (laterStages_filtered ..).trans (staged_filtered ..)
  have hbaseline : q.baseline = (p.staged r.cfg s).baseline := laterStages_baseline ..
  have hdecim : q.decim = (p.staged r.cfg s).decim := laterStages_decim ..
  have hon (h : r.cfg.mode ≠ .off) := laterStages_on band lead p.before (p.staged r.cfg s) h
  rw [staged_filtered, staged_level, staged_cand, staged_candCount, staged_hold] at hon
  refine ⟨rfl, rfl, hseeded, decide_eq_true_iff, rfl, ?spikes, hfiltered, fun h => ?off, fun h => ?manual,
    fun h => ?capture, fun h => if_neg h, fun h => ?seeding, fun h hm => ?kept, fun h hm => ?auto, fun h => ?on⟩
  case spikes =>
    show r.cnt.spikes + (if (p.seeded && cl.2) = true then 1 else 0) = _
    simp only [Bool.and_eq_true]
  case off =>
    have hq : q = { (p.staged r.cfg s).offValues with hold := none } := laterStages_of_off _ _ _ _ h
    rw [hq]
    exact ⟨rfl, rfl, rfl, rfl, rfl, rfl, rfl, staged_baseline_kept s (.inl h)⟩
  case manual => exact hbaseline.trans (staged_baseline_kept s (.inr h))
  case capture =>
    have hcaptured := staged_baseline_capture s (p := p) h
    have hfilled : (p.staged r.cfg s).baseline = q.filtered := hcaptured.trans hfiltered.symm
    obtain ⟨hraw, -⟩ := hon (by simp [h])
    refine ⟨hbaseline.trans hfilled, ?_, ?_⟩
    · exact hraw.trans (sub_eq_zero.2 hcaptured.symm)
    · show capturedSettings r.cfg (p.staged r.cfg s) = _
      rw [capturedSettings, if_pos h, hfilled]
  case seeding =>
    rw [hdecim, hbaseline, staged_of_unseeded s h]
    exact ⟨seedAt_decim _, fun hm => seedAt_baseline_auto hm _⟩
  case kept =>
    rw [hdecim, staged_of_seeded s h]
    exact baselineStage_decim_kept hm
  case auto =>
    rw [hdecim, hbaseline, hfiltered, staged_of_seeded s h]
    refine ⟨fun hd => ?_, fun hd => ?_⟩
    · rw [baselineStage_waits (p := { p with filtered := p.nextFiltered r.cfg s }) hm hd]
      exact ⟨rfl, rfl⟩
    · rw [baselineStage_due (p := { p with filtered := p.nextFiltered r.cfg s }) hm hd]
      exact ⟨rfl, rfl⟩
  case on =>
    obtain ⟨hraw, hdev, hdir, hx, hmoves, hstays, htimed⟩ := hon h
    refine ⟨?_, hdev, hdir, hx, hmoves, hstays, htimed⟩
    rw [hbaseline, hfiltered]
    exact hraw

end Sys2Proof.Machine
end

section
/-! SUPPORT. Invariants of a record's settings and pipeline, proved for each thing that moves a pipeline: a completed
pair, a rebase, a commit and a reseed (R80, R97, R99 to R101). The hold timer's is the first (R96). -/

namespace Sys2Proof.Machine

/-! ## What moves a pipeline -/

/-- A judged copy leaves the settings and the pipeline, or moves both as a completed pair does (R80). -/
theorem judgedOrigin_pipeline (s : State) (k : Copy) (r : Origin) :
    ((judgedOrigin s k r).cfg = r.cfg ∧ (judgedOrigin s k r).pipe = r.pipe) ∨
    ∃ lead x, (judgedOrigin s k r).cfg = capturedSettings r.cfg (r.pipe.staged r.cfg x) ∧
      (judgedOrigin s k r).pipe = laterStages s.globals.band r.cfg lead r.pipe.before (r.pipe.staged r.cfg x) := by
  obtain ⟨w, miss, state, cnt, e⟩ := judge_frame (judgeSettings s.globals) k ⟨s.lines, r⟩
  unfold judgedOrigin
  rw [afterJudgment_eq, pairedOrigin, e]
  split
  · rw [processPair_eq]
    exact .inr ⟨_, _, rfl, rfl⟩
  · exact .inl ⟨rfl, rfl⟩

/-- What a pipeline keeps beside its record's settings through everything that moves it. `M` is what a manual baseline
put or stored has to meet. -/
structure PipelineInvariant (K : OriginSettings → Pipeline → Prop) (M : Int → Prop) : Prop where
  manual : ∀ {cfg p}, K cfg p → M cfg.manual
  zero : M 0
  clamped : ∀ v, M (clampMag Config.maxSkew v)
  fresh : ∀ {cfg}, M cfg.manual → K cfg (.fresh cfg)
  pair : ∀ {cfg p} (band : HysteresisBand) (lead : Option Int) (x : Int), K cfg p →
    K (capturedSettings cfg (p.staged cfg x)) (laterStages band cfg lead p.before (p.staged cfg x))
  rebase : ∀ {cfg p}, K cfg p → K cfg p.rebase
  commit : ∀ {old new p}, M new.manual → K old p → K new (commitPipeline old new p)
  reseed : ∀ {cfg p}, K cfg p → K cfg (reseedPipeline cfg p)

namespace PipelineInvariant
variable {K : OriginSettings → Pipeline → Prop} {M : Int → Prop} (inv : PipelineInvariant K M)
include inv

/-- The manual baseline of a clamped put, or the one kept under another mode (R157). -/
theorem putManual (f : PutFields) (ref : Option Nat) {kept : Int} (h : M kept) :
    M (f.clamped.settings ref kept).manual := by
  simp only [PutFields.settings, PutFields.clamped]
  split
  · exact inv.clamped _
  · exact h

theorem reconfigure {r : Origin} {new : OriginSettings} (hn : M new.manual) (reseed : Bool) (h : K r.cfg r.pipe) :
    K (r.reconfigure new reseed).cfg (r.reconfigure new reseed).pipe := by
  cases reseed with
  | false => exact inv.commit hn h
  | true => exact inv.reseed (inv.commit hn h)

theorem judged {s : State} {k : Copy} {r : Origin} (h : K r.cfg r.pipe) :
    K (judgedOrigin s k r).cfg (judgedOrigin s k r).pipe := by
  obtain ⟨hcfg, hpipe⟩ | ⟨lead, x, hcfg, hpipe⟩ := judgedOrigin_pipeline s k r
  · rw [hcfg, hpipe]
    exact h
  · rw [hcfg, hpipe]
    exact inv.pair _ _ _ h

theorem records : RecordInvariant (fun r => K r.cfg r.pipe) fun x => M x.cfg.manual where
  turn {c i r r' q} h hr := by
    cases h with
    | notified n => exact hr
    | relaned limit =>
      rw [Origin.relane_eq]
      exact hr
    | judged s k hs => exact inv.judged hr
    | expired lines p =>
      obtain ⟨l, cnt, e, -⟩ := expirePair_orig c.globals.lossLimit p ⟨lines, r⟩
      rw [e]
      exact hr
    | silenced lines =>
      obtain ⟨l, cnt, e, -⟩ := fallSilent_orig c.globals.lossLimit ⟨lines, r⟩
      rw [e]
      exact hr
    | rebased => exact inv.rebase hr
    | reminded hl => exact hr
    | shared owners hl ho => exact hr
    | reconfigured f ref hl hrise href hlead =>
      exact inv.reconfigure (inv.putManual f ref (inv.manual hr)) f.reseed hr
    | promoted m f ref hl hrise href => exact inv.reconfigure (inv.putManual f ref inv.zero) f.reseed hr
  newcomer h := by
    cases h with
    | learned a note => exact inv.fresh inv.zero
    | configured m a f ref hrise => exact inv.fresh (inv.putManual f ref inv.zero)
  stored hx hr := by
    obtain ⟨-, rfl⟩ := stored_eq_some hx
    exact inv.manual hr
  load hx := inv.fresh hx

end PipelineInvariant

/-! ## The hold timer (R96, R99 to R101) -/

/-- The hold timer runs exactly in Auto at Excess or Gross (R96). -/
def HoldFits (cfg : OriginSettings) (p : Pipeline) : Prop :=
  p.hold.isSome = true ↔ cfg.mode = .auto ∧ p.level.high = true

section
variable {cfg : OriginSettings} {p : Pipeline}

theorem HoldFits.stopped (hh : p.hold = none) (h : cfg.mode ≠ .auto ∨ p.level = .steady) : HoldFits cfg p := by
  rw [HoldFits, hh]
  refine iff_of_false nofun ?_
  rintro ⟨hm, hl⟩
  rcases h with h | h
  · exact h hm
  · rw [h] at hl
    cases hl

/-- The hold stage sets the timer right when it found it stopped outside Auto, and running in Auto at a high level. -/
theorem holdStage_holdFits {before : Level} (hoff : cfg.mode ≠ .auto → p.hold = none)
    (hon : cfg.mode = .auto → before.high = true → p.hold.isSome = true) : HoldFits cfg (holdStage cfg before p) := by
  unfold holdStage
  split
  · next hlow => exact iff_of_false nofun fun h => Bool.noConfusion (hlow.symm.trans h.2)
  · next hhigh =>
    rw [Bool.not_eq_false] at hhigh
    split
    · next hstart => exact iff_of_true rfl ⟨hstart.1, hhigh⟩
    · next hstays =>
      by_cases hm : cfg.mode = .auto
      · exact iff_of_true (hon hm (by simpa [hm] using hstays)) ⟨hm, hhigh⟩
      · exact iff_of_false (by simp [hoff hm]) fun h => hm h.1

theorem HoldFits.stopped_of_mode (h : HoldFits cfg p) (hm : cfg.mode ≠ .auto) : p.hold = none := by
  cases hh : p.hold with
  | none => rfl
  | some n => exact absurd (h.1 (by rw [hh]; rfl)).1 hm

/-- A capture completed is no more in Auto than before. -/
theorem capturedSettings_auto_iff (cfg : OriginSettings) (p : Pipeline) :
    (capturedSettings cfg p).mode = .auto ↔ cfg.mode = .auto := by
  unfold capturedSettings
  split
  · next h => simp [h]
  · exact Iff.rfl

theorem HoldFits.pair (h : HoldFits cfg p) (band : HysteresisBand) (lead : Option Int) (x : Int) :
    HoldFits (capturedSettings cfg (p.staged cfg x)) (laterStages band cfg lead p.before (p.staged cfg x)) := by
  rw [HoldFits, capturedSettings_auto_iff]
  show HoldFits cfg _
  by_cases hm : cfg.mode = .off
  · rw [laterStages_of_off _ _ _ _ hm]
    exact .stopped rfl (.inr rfl)
  · obtain ⟨l, n, e⟩ := debounce_frame cfg.c
      (candidateOf band cfg (p.staged cfg x).level ((p.staged cfg x).shown cfg lead).dev)
      ((p.staged cfg x).shown cfg lead)
    rw [laterStages_of_on _ _ _ _ hm, e]
    refine holdStage_holdFits (fun hauto => ?_) fun hauto hbefore => ?_
    · exact (staged_hold cfg x p).trans (h.stopped_of_mode hauto)
    · have hseeded : p.before.high = true → p.level.high = true := by
        unfold Pipeline.before
        split
        · exact id
        · exact nofun
      show (p.staged cfg x).hold.isSome = true
      rw [staged_hold]
      exact h.2 ⟨hauto, hseeded hbefore⟩

theorem HoldFits.commit {old new : OriginSettings} (h : HoldFits old p) : HoldFits new (commitPipeline old new p) := by
  unfold commitPipeline
  split
  · split
    · exact .stopped rfl (.inr rfl)
    · next hm =>
      dsimp only [HoldFits]
      cases hl : p.level.high <;> simp [hm]
    · next hm => exact .stopped rfl (.inl (by simp [hm]))
    · next hm => exact .stopped rfl (.inl (by simp [hm]))
  · next hsame =>
    rw [not_not] at hsame
    have hrestarted : (if p.hold.isSome = true ∧ new.hold ≠ old.hold then some new.hold else p.hold).isSome =
        p.hold.isSome := by
      split
      · next hruns => exact hruns.1.symm
      · rfl
    rw [HoldFits, hsame]
    dsimp only
    rw [hrestarted]
    exact h

theorem HoldFits.reseed (h : HoldFits cfg p) : HoldFits cfg (reseedPipeline cfg p) := by
  unfold reseedPipeline
  split
  · exact h
  · exact .stopped rfl (.inr rfl)

end

theorem holdFits_invariant : PipelineInvariant HoldFits fun _ => True where
  manual _ := trivial
  zero := trivial
  clamped _ := trivial
  fresh _ := .stopped rfl (.inr rfl)
  pair band lead x h := h.pair band lead x
  rebase _ := .stopped rfl (.inr rfl)
  commit _ h := h.commit
  reseed h := h.reseed

/-- Settles O13: the hold timer's condition is an invariant of the pipelines, and asks nothing of the stored records. -/
theorem holdTimersMatchModeAndLevel : Obligations.HoldTimersMatchModeAndLevel := fun _ _ h hs =>
  (holdFits_invariant.records.step ⟨h, fun _ _ => trivial, fun _ _ => trivial, fun _ _ _ _ => trivial⟩ hs).1

end Sys2Proof.Machine
end

section
/-! SUPPORT. Skew values stay in range (R79, R85, R86, R90, R92): every value of a pipeline is a sample limited, a step
between values in range, a clamped number, a committed baseline or a difference of two of these. -/

namespace Sys2Proof.Machine

/-- The skew values of a record in range (R79, R92). -/
structure SkewsFit (cfg : OriginSettings) (p : Pipeline) : Prop where
  manual : skewFits cfg.manual
  filtered : skewFits p.filtered
  baseline : skewFits p.baseline
  dev : skewFits p.dev
  raw : -(2 * Config.maxSkew) ≤ p.raw ∧ p.raw ≤ 2 * Config.maxSkew

theorem skewInRange_iff (r : Origin) : r.skewInRange ↔ SkewsFit r.cfg r.pipe :=
  ⟨fun ⟨hm, hf, hb, hd, hr⟩ => ⟨hm, hf, hb, hd, hr⟩, fun ⟨hm, hf, hb, hd, hr⟩ => ⟨hm, hf, hb, hd, hr⟩⟩

/-- The difference of two values in range is a raw deviation in range (R90). -/
theorem rawFits_sub {v w : Int} (hv : skewFits v) (hw : skewFits w) :
    -(2 * Config.maxSkew) ≤ v - w ∧ v - w ≤ 2 * Config.maxSkew := by
  simp only [skewFits, Config.maxSkew] at hv hw ⊢
  omega

theorem rawFits_zero : -(2 * Config.maxSkew) ≤ (0 : Int) ∧ (0 : Int) ≤ 2 * Config.maxSkew := by
  simp only [Config.maxSkew]
  omega

namespace SkewsFit
variable {cfg old new : OriginSettings} {p : Pipeline}

theorem nextFiltered (h : SkewsFit cfg p) (x : Int) : skewFits (p.nextFiltered cfg x) := by
  unfold Pipeline.nextFiltered
  split
  · exact skewFits_filterStep _ h.filtered (skewFits_clampMag _)
  · exact skewFits_workingValue x

theorem stagedBaseline (h : SkewsFit cfg p) (x : Int) : skewFits (p.staged cfg x).baseline := by
  cases hm : cfg.mode with
  | off => rw [staged_baseline_kept x (.inl hm)]; exact h.baseline
  | manual => rw [staged_baseline_kept x (.inr hm)]; exact h.baseline
  | capture => rw [staged_baseline_capture x hm]; exact h.nextFiltered x
  | auto =>
    cases hseed : p.seeded with
    | false =>
      rw [staged_of_unseeded x hseed, seedAt_baseline_auto hm]
      exact skewFits_workingValue x
    | true =>
      rw [staged_of_seeded x hseed]
      rcases Nat.lt_or_ge (p.decim + 1) cfg.m with hd | hd
      · rw [baselineStage_waits (p := { p with filtered := p.nextFiltered cfg x }) hm hd]
        exact h.baseline
      · rw [baselineStage_due (p := { p with filtered := p.nextFiltered cfg x }) hm hd]
        dsimp only
        split
        · exact h.baseline
        · exact skewFits_filterStep _ h.baseline (h.nextFiltered x)

theorem pair (h : SkewsFit cfg p) (band : HysteresisBand) (lead : Option Int) (x : Int) :
    SkewsFit (capturedSettings cfg (p.staged cfg x)) (laterStages band cfg lead p.before (p.staged cfg x)) where
  manual := by
    unfold capturedSettings
    split
    · exact h.stagedBaseline x
    · exact h.manual
  filtered := by
    rw [laterStages_filtered, staged_filtered]
    exact h.nextFiltered x
  baseline := by
    rw [laterStages_baseline]
    exact h.stagedBaseline x
  dev := by
    by_cases hm : cfg.mode = .off
    · rw [laterStages_of_off _ _ _ _ hm]
      exact skewFits_zero
    · obtain ⟨-, hdev, -⟩ := laterStages_on band lead p.before (p.staged cfg x) hm
      rw [hdev]
      exact skewFits_clampMag _
  raw := by
    by_cases hm : cfg.mode = .off
    · rw [laterStages_of_off _ _ _ _ hm]
      exact rawFits_zero
    · obtain ⟨hraw, -⟩ := laterStages_on band lead p.before (p.staged cfg x) hm
      rw [hraw, staged_filtered]
      exact rawFits_sub (h.nextFiltered x) (h.stagedBaseline x)

theorem fresh (h : skewFits cfg.manual) : SkewsFit cfg (.fresh cfg) where
  manual := h
  filtered := skewFits_zero
  baseline := by
    dsimp only [Pipeline.fresh]
    split
    · exact h
    · exact skewFits_zero
  dev := skewFits_zero
  raw := rawFits_zero

theorem rebase (h : SkewsFit cfg p) : SkewsFit cfg p.rebase :=
  ⟨h.manual, h.filtered, h.filtered, skewFits_zero, rawFits_zero⟩

theorem commit (hn : skewFits new.manual) (h : SkewsFit old p) : SkewsFit new (commitPipeline old new p) := by
  unfold commitPipeline
  split
  · split
    · exact ⟨hn, h.filtered, h.baseline, skewFits_zero, rawFits_zero⟩
    · exact ⟨hn, h.filtered, h.baseline, h.dev, h.raw⟩
    · exact ⟨hn, h.filtered, hn, h.dev, h.raw⟩
    · exact ⟨hn, h.filtered, h.baseline, h.dev, h.raw⟩
  · refine ⟨hn, h.filtered, ?_, h.dev, h.raw⟩
    dsimp only
    split
    · exact hn
    · exact h.baseline

theorem reseed (h : SkewsFit cfg p) : SkewsFit cfg (reseedPipeline cfg p) := by
  unfold reseedPipeline
  split
  · exact h
  · refine ⟨h.manual, skewFits_zero, ?_, skewFits_zero, rawFits_zero⟩
    dsimp only
    split
    · exact h.manual
    · exact skewFits_zero

end SkewsFit

theorem skewsFit_invariant : PipelineInvariant SkewsFit skewFits where
  manual h := h.manual
  zero := skewFits_zero
  clamped := skewFits_clampMag
  fresh := .fresh
  pair band lead x h := h.pair band lead x
  rebase h := h.rebase
  commit hn h := h.commit hn
  reseed h := h.reseed

theorem skewBounded_iff (s : State) :
    SkewBounded s ↔ EveryRecord (fun r => SkewsFit r.cfg r.pipe) (fun x => skewFits x.cfg.manual) s := by
  simp only [SkewBounded, EveryRecord, skewInRange_iff]
  rfl

theorem step_skewBounded {s t : State} (h : SkewBounded s) (hs : step s = .next t) : SkewBounded t :=
  (skewBounded_iff t).2 (skewsFit_invariant.records.step ((skewBounded_iff s).1 h) hs)

end Sys2Proof.Machine
end

section
/-! SUPPORT. Settings stay in their ranges (3.2, R157, R162), move by move: a put is clamped, its thresholds rise, and a
learned record takes the profile's settings. -/

namespace Sys2Proof.Machine

/-! ## Clamping (R157) -/

/-- A number between two limits. -/
abbrev Within (lo hi v : Nat) : Prop := lo ≤ v ∧ v ≤ hi

theorem within_clampNat {lo hi : Nat} (h : lo ≤ hi) (v : Nat) : Within lo hi (clampNat lo hi v) :=
  ⟨Nat.le_max_left .., Nat.max_le.2 ⟨h, Nat.min_le_left ..⟩⟩

theorem nearestLinkFail_mem (v : Nat) :
    nearestLinkFail v = 0 ∨ nearestLinkFail v = 5 ∨ nearestLinkFail v = 20 ∨ nearestLinkFail v = 100 := by
  unfold nearestLinkFail
  split
  · exact .inl rfl
  · split
    · exact .inr (.inl rfl)
    · split
      · exact .inr (.inr (.inl rfl))
      · exact .inr (.inr (.inr rfl))

theorem thresholdsRise_iff (t1 t2 t3 : Nat) : thresholdsRise t1 t2 t3 = true ↔ t1 < t2 ∧ t2 < t3 := by
  simp only [thresholdsRise, Bool.and_eq_true, decide_eq_true_eq]

/-- The settings of a clamped put whose thresholds rise are in range. -/
theorem settings_inRange {f : PutFields} (h : thresholdsRise f.clamped.t1 f.clamped.t2 f.clamped.t3 = true)
    (ref : Option Nat) (kept : Int) : (f.clamped.settings ref kept).inRange := by
  obtain ⟨h12, h23⟩ := (thresholdsRise_iff ..).1 h
  have hj := within_clampNat (lo := 4) (hi := 11) (by decide) f.j
  have hm := within_clampNat (lo := 1) (hi := 255) (by decide) f.m
  have hc := within_clampNat (lo := 1) (hi := 4) (by decide) f.c
  have hspike := within_clampNat (lo := 1) (hi := 32767) (by decide) f.spike
  have hhold := within_clampNat (lo := 1) (hi := 255) (by decide) f.hold
  have hsilence := within_clampNat (lo := 1) (hi := 255) (by decide) f.silence
  exact ⟨(within_clampNat (Nat.zero_le 4) f.k).2, hj.1, hj.2, hm.1, hm.2,
    (within_clampNat (lo := 1) (hi := 32767) (by decide) f.t1).1, h12, h23,
    (within_clampNat (lo := 1) (hi := 32767) (by decide) f.t3).2, hc.1, hc.2, hspike.1, hspike.2, hhold.1, hhold.2,
    (within_clampNat (Nat.zero_le 128) f.weight).2, hsilence.1, hsilence.2⟩

/-! ## The settings of a record -/

theorem capturedSettings_inRange {cfg : OriginSettings} (h : cfg.inRange) (p : Pipeline) :
    (capturedSettings cfg p).inRange := by
  unfold capturedSettings
  split <;> exact h

theorem judgedOrigin_settingsInRange {s : State} {k : Copy} {r : Origin} (h : r.settingsInRange) :
    (judgedOrigin s k r).settingsInRange := by
  obtain ⟨hcfg, hforget⟩ := h
  obtain ⟨-, -, -, htime, -, -⟩ := judgedOrigin_identity s k r
  refine ⟨?_, by rwa [htime]⟩
  obtain ⟨e, -⟩ | ⟨lead, x, e, -⟩ := judgedOrigin_pipeline s k r
  · rwa [e]
  · rw [e]
    exact capturedSettings_inRange hcfg _

theorem learn_settingsInRange {p : Profile} (h : p.inRange) (a : Addr) (note : LearningNote) :
    (Origin.learn p a note).settingsInRange := by
  obtain ⟨hcfg, hforget⟩ := h
  exact ⟨hcfg, fun n hn => by cases hn; exact hforget⟩

theorem fresh_settingsInRange {cfg : OriginSettings} (h : cfg.inRange) (a : Addr) (o : PerMaster Bool) :
    (Origin.fresh a o cfg).settingsInRange := ⟨h, nofun⟩

theorem Turn.settingsInRange {c : Census} {i : Nat} {r r' : Origin} {q : List Nat} (h : Turn c i r r' q)
    (hr : r.settingsInRange) : r'.settingsInRange := by
  cases h with
  | notified n => exact hr
  | relaned limit =>
    rw [Origin.relane_eq]
    exact hr
  | judged s k hs => exact judgedOrigin_settingsInRange hr
  | expired lines p =>
    obtain ⟨l, cnt, e, -⟩ := expirePair_orig c.globals.lossLimit p ⟨lines, r⟩
    rw [e]
    exact hr
  | silenced lines =>
    obtain ⟨l, cnt, e, -⟩ := fallSilent_orig c.globals.lossLimit ⟨lines, r⟩
    rw [e]
    exact hr
  | rebased => exact hr
  | reminded hl => exact hr
  | shared owners hl ho => exact hr
  | reconfigured f ref hl hrise href hlead => exact ⟨settings_inRange hrise ref _, hr.2⟩
  | promoted m f ref hl hrise href => exact ⟨settings_inRange hrise ref _, nofun⟩

/-! ## The global settings -/

/-- The ranges of the global settings, setting by setting (R162). -/
structure GlobalsFit (g : Globals) : Prop where
  pairTimeout : Within 1 255 g.pairTimeout
  lossLimit : Within 1 15 g.lossLimit
  k : g.profile.k ≤ 4
  j : Within 4 11 g.profile.j
  m : Within 1 255 g.profile.m
  c : Within 1 4 g.profile.c
  thresholds : 1 ≤ g.profile.t1 ∧ g.profile.t1 < g.profile.t2 ∧ g.profile.t2 < g.profile.t3 ∧ g.profile.t3 ≤ 32767
  spike : Within 1 32767 g.profile.spike
  hold : Within 1 255 g.profile.hold
  silence : Within 1 255 g.profile.silence
  forget : Within 1 255 g.profile.forget
  rollInterval : Within 1 80 g.rollInterval
  probeLimit : Within 1 30 g.probeLimit
  linkFailTime : g.linkFailTime = 0 ∨ g.linkFailTime = 5 ∨ g.linkFailTime = 20 ∨ g.linkFailTime = 100
  settleTime : g.settleTime ≤ 255
  startQuiet : g.startQuiet ≤ 50
  alertHold : Within 1 255 g.alertHold

theorem globals_inRange_iff (g : Globals) : g.inRange ↔ GlobalsFit g := by
  constructor
  · rintro ⟨hp1, hp2, hl1, hl2,
      ⟨⟨hk, hj1, hj2, hm1, hm2, ht1, h12, h23, ht3, hc1, hc2, hs1, hs2, hh1, hh2, -, hq1, hq2⟩, hf⟩,
      hr1, hr2, hb1, hb2, hfail, hsettle, hquiet, ha⟩
    exact ⟨⟨hp1, hp2⟩, ⟨hl1, hl2⟩, hk, ⟨hj1, hj2⟩, ⟨hm1, hm2⟩, ⟨hc1, hc2⟩, ⟨ht1, h12, h23, ht3⟩, ⟨hs1, hs2⟩, ⟨hh1, hh2⟩,
      ⟨hq1, hq2⟩, hf, ⟨hr1, hr2⟩, ⟨hb1, hb2⟩, hfail, hsettle, hquiet, ha⟩
  · rintro ⟨⟨hp1, hp2⟩, ⟨hl1, hl2⟩, hk, ⟨hj1, hj2⟩, ⟨hm1, hm2⟩, ⟨hc1, hc2⟩, ⟨ht1, h12, h23, ht3⟩, ⟨hs1, hs2⟩,
      ⟨hh1, hh2⟩, ⟨hq1, hq2⟩, hf, ⟨hr1, hr2⟩, ⟨hb1, hb2⟩, hfail, hsettle, hquiet, ha⟩
    exact ⟨hp1, hp2, hl1, hl2,
      ⟨⟨hk, hj1, hj2, hm1, hm2, ht1, h12, h23, ht3, hc1, hc2, hs1, hs2, hh1, hh2, Nat.zero_le _, hq1, hq2⟩, hf⟩,
      hr1, hr2, hb1, hb2, hfail, hsettle, hquiet, ha⟩

/-- A clamped put keeps the global settings in range; thresholds that do not rise are refused (R153, R157). -/
theorem GlobalsFit.put {x : Globals} (h : GlobalsFit x) (g : GlobalSetting) (v1 v2 v3 : Nat)
    (hrise : ¬ (g = .profileThresholds ∧
      thresholdsRise (globalClamp g v1) (globalClamp g v2) (globalClamp g v3) = false)) :
    GlobalsFit (x.put (globalClamp g v1) (globalClamp g v2) (globalClamp g v3) g) := by
  cases g with
  | pairTimeout => exact { h with pairTimeout := within_clampNat (by decide) v3 }
  | lossLimit => exact { h with lossLimit := within_clampNat (by decide) v3 }
  | learning => exact { h with }
  | profileMode => exact { h with }
  | profileK => exact { h with k := (within_clampNat (Nat.zero_le 4) v3).2 }
  | profileJ => exact { h with j := within_clampNat (by decide) v3 }
  | profileM => exact { h with m := within_clampNat (by decide) v3 }
  | profileC => exact { h with c := within_clampNat (by decide) v3 }
  | profileThresholds =>
    obtain ⟨h12, h23⟩ := (thresholdsRise_iff ..).1 (by simpa using hrise)
    exact { h with thresholds := ⟨(within_clampNat (by decide) v1).1, h12, h23, (within_clampNat (by decide) v3).2⟩ }
  | profileSpike => exact { h with spike := within_clampNat (by decide) v3 }
  | profileHi => exact { h with }
  | profileLo => exact { h with }
  | profileHold => exact { h with hold := within_clampNat (by decide) v3 }
  | profileSilence => exact { h with silence := within_clampNat (by decide) v3 }
  | profileForget => exact { h with forget := within_clampNat (by decide) v3 }
  | band => exact { h with }
  | rollInterval => exact { h with rollInterval := within_clampNat (by decide) v3 }
  | probeLimit => exact { h with probeLimit := within_clampNat (by decide) v3 }
  | linkFailTime => exact { h with linkFailTime := nearestLinkFail_mem v3 }
  | settleTime => exact { h with settleTime := (within_clampNat (Nat.zero_le 255) v3).2 }
  | startQuiet => exact { h with startQuiet := (within_clampNat (Nat.zero_le 50) v3).2 }
  | alertHold => exact { h with alertHold := within_clampNat (by decide) v3 }

/-! ## Records and global settings together -/

/-- Every record's settings and the global settings in range. -/
structure CensusInRange (c : Census) : Prop where
  records : ∀ e ∈ c.origins, e.2.settingsInRange
  globals : c.globals.inRange

namespace CensusInRange

theorem profile {c : Census} (h : CensusInRange c) : c.globals.profile.inRange := by
  obtain ⟨-, -, -, -, hprofile, -⟩ := h.globals
  exact hprofile

theorem move {c c' : Census} (h : CensusInRange c) (hm : Move c c') : CensusInRange c' := by
  have put {t : List (Nat × Origin)} {i : Nat} {r : Origin} (hr : r.settingsInRange)
      (ht : ∀ e ∈ t, e.2.settingsInRange) : ∀ e ∈ tabPut t i r, e.2.settingsInRange := fun e he => by
    rcases mem_tabPut he with rfl | he
    · exact hr
    · exact ht e he
  have learned (a : Addr) (note : LearningNote) := learn_settingsInRange h.profile a note
  cases hm with
  | raised m k => exact ⟨h.records, h.globals⟩
  | marked i hi => exact ⟨h.records, h.globals⟩
  | grouped t ht => exact ⟨h.records, h.globals⟩
  | turned hr ht => exact ⟨put (ht.settingsInRange (h.records _ hr)) h.records, h.globals⟩
  | admitted s k a hs hlt ha => exact ⟨put (judgedOrigin_settingsInRange (learned a _)) h.records, h.globals⟩
  | evicted s k a head rest hs hq ha =>
    exact ⟨put (judgedOrigin_settingsInRange (learned a _)) fun e he => h.records e (mem_tabErase he), h.globals⟩
  | announced n a hlt ha => exact ⟨put (learned a _) h.records, h.globals⟩
  | configured m a f ref hlt ha hrise href =>
    exact ⟨put (fresh_settingsInRange (settings_inRange hrise ref _) a _) h.records, h.globals⟩
  | removed hr hgone => exact ⟨fun e he => h.records e (mem_tabErase he), h.globals⟩
  | regulated g v1 v2 v3 hrise =>
    refine ⟨?_, (globals_inRange_iff _).2 (((globals_inRange_iff _).1 h.globals).put g v1 v2 v3 hrise)⟩
    dsimp only
    split
    · intro e he
      obtain ⟨r, hr, hx⟩ := mem_tabMap he
      rw [hx, Origin.relane_eq]
      exact h.records _ hr
    · exact h.records

theorem moves {s t : State} (h : CensusInRange s.census) (hm : Moves s t) : CensusInRange t.census := by
  unfold Moves at hm
  generalize t.census = c at hm
  induction hm with
  | refl => exact h
  | tail _ hm ih => exact ih.move hm

theorem linkStep {m : Master} {s t : State} (h : CensusInRange s.census) (hl : LinkStep m s t) :
    CensusInRange t.census := by
  constructor
  · show ∀ e ∈ t.origins, e.2.settingsInRange
    rw [hl.origins]
    exact h.records
  · show t.globals.inRange
    rw [hl.globals]
    exact h.globals

theorem loaded {c : SetContent} (h : c.inRange) (s : State) : CensusInRange (loadedCensus c s) := by
  obtain ⟨horigins, hglobals, -⟩ := h
  refine ⟨fun e he => ?_, hglobals⟩
  obtain ⟨x, hmem, hx⟩ := mem_tabMap he
  rw [hx]
  exact fresh_settingsInRange (horigins _ hmem) x.addr x.owners

/-- A snapshot of settings in range is in range (R171, R172). -/
theorem snapshot {s : State} (h : CensusInRange s.census) (hg : gapsInRange s.bayCfg) : (snapshotOf s).inRange := by
  refine ⟨fun e he => ?_, h.globals, hg⟩
  obtain ⟨r, hr, hx⟩ := mem_tabFilterMap he
  obtain ⟨-, e'⟩ := stored_eq_some hx
  rw [e']
  exact (h.records _ hr).1

end CensusInRange

theorem factorySet_inRange : factorySet.inRange :=
  ⟨by simp [factorySet], (globals_inRange_iff _).2 (by constructor <;> decide), by decide, by decide⟩

end Sys2Proof.Machine
end

section
/-! SUPPORT. The bay-port settings and the staging areas, which most commands leave alone: what a STAGE takes in passes
the form checks (R149), and an apply puts only such items (R133, R152). The statement about ranges. -/

namespace Sys2Proof.Machine

/-! ## What the form checks let pass (R149) -/

theorem refAt_individual {bs : List Byte} {off : Nat} {ref : Option Addr} (h : refAt bs off = some ref) :
    ∀ a, ref = some a → groupBit a = false := by
  unfold refAt at h
  split at h
  · cases h
  · cases h
    exact nofun
  · split at h
    · cases h
    · next hbit =>
      cases h
      intro a ha
      cases ha
      simpa using hbit

theorem skewAt_mem (bs : List Byte) (off : Nat) : -8388608 ≤ skewAt bs off ∧ skewAt bs off < 8388608 :=
  ⟨BitVec.le_toInt _, BitVec.toInt_lt⟩

theorem putFieldsOf_fits {bs : List Byte} {f : PutFields} (h : putFieldsOf bs = some f) : f.fits := by
  have byte (off : Nat) : numAt bs off 1 < 256 := numAt_lt bs off 1
  have word (off : Nat) : numAt bs off 2 < 65536 := numAt_lt bs off 2
  unfold putFieldsOf at h
  split at h
  · next href _ _ =>
    cases h
    exact ⟨(skewAt_mem bs 8).1, (skewAt_mem bs 8).2, byte _, byte _, byte _, word _, word _, word _, byte _, word _,
      byte _, byte _, byte _, refAt_individual href⟩
  · cases h

theorem itemOf_fits {bs : List Byte} {it : Item} (h : itemOf bs = some it) : it.fits := by
  have word (off : Nat) : numAt bs off 2 < 65536 := numAt_lt bs off 2
  unfold itemOf at h
  split at h
  · split at h
    · cases h
    · next hbit =>
      obtain ⟨f, hf, rfl⟩ := Option.map_eq_some_iff.1 h
      exact ⟨by simpa using hbit, putFieldsOf_fits hf⟩
  · split at h
    · cases h
    · next hbit =>
      cases h
      simpa [Item.fits] using hbit
  · split at h
    · cases h
    · next hbit =>
      cases h
      simpa [Item.fits] using hbit
  · split at h
    · next hgroup =>
      obtain ⟨cls, -, rfl⟩ := Option.map_eq_some_iff.1 h
      exact hgroup
    · cases h
  · split at h
    · next hgroup =>
      cases h
      exact hgroup
    · cases h
  · split at h
    · cases h
    · cases h
      exact ⟨word _, word _, word _, fun hne => absurd rfl hne, rfl⟩
    · split at h
      · next hcode =>
        cases h
        exact ⟨by decide, by decide, word _, fun _ => ⟨rfl, rfl⟩, hcode⟩
      · cases h
  · split at h
    · cases h
    · split at h
      · next hcode =>
        cases h
        exact ⟨word _, hcode⟩
      · cases h
  · cases h

theorem formCheck_fits {bs : List Byte} {it : Item} (h : formCheck bs = .ok it) : it.fits := by
  unfold formCheck at h
  split at h
  · cases h
  · split at h
    · cases h
    · split at h
      · cases h
      · split at h
        · cases h
        · next hit =>
          cases h
          exact itemOf_fits hit

/-! ## Commands that leave the bay-port settings and the staging areas alone -/

/-- The bay-port settings and the staging areas. -/
def State.desk (s : State) : PerMaster BaySettings × PerMaster (List Item) := (s.bayCfg, s.staging)

section
variable (s : State)

theorem takeCommand_desk (m : Master) (x : Args) {own : List Byte → State} (h : ∀ bytes, (own bytes).desk = s.desk) :
    (takeCommand m x s own).desk = s.desk := by
  obtain e | ⟨e, -⟩ | ⟨bytes, -, -, -, e⟩ := takeCommand_cases s m x own
  · rw [e]; rfl
  · rw [e]; rfl
  · rw [e, h]

theorem takeFixed_desk (m : Master) (n : Nat) (x : Args) {own : List Byte → State}
    (h : ∀ bytes, (own bytes).desk = s.desk) : (takeFixed m n x s own).desk = s.desk :=
  takeCommand_desk s m x fun bytes => by
    split
    · rfl
    · exact h bytes

theorem readOriginEffect_desk (m : Master) (x : Args) : (readOriginEffect m x s).desk = s.desk :=
  takeFixed_desk s m 2 x fun bytes => by
    split
    · rfl
    · split <;> rfl

theorem readGroupEffect_desk (m : Master) (x : Args) : (readGroupEffect m x s).desk = s.desk :=
  takeFixed_desk s m 1 x fun bytes => by split <;> rfl

theorem readPortEffect_desk (m : Master) (x : Args) : (readPortEffect m x s).desk = s.desk :=
  takeFixed_desk s m 2 x fun bytes => by split <;> rfl

theorem applyEffect_desk (m : Master) (x : Args) : (applyEffect m x s).desk = s.desk :=
  takeFixed_desk s m 0 x fun bytes => by split <;> rfl

theorem setUserSet_desk (u : UserSlot) (x : UserSet) : (s.setUserSet u x).desk = s.desk := by cases u <;> rfl

theorem saveSetEffect_desk (m : Master) (x : Args) : (saveSetEffect m x s).desk = s.desk :=
  takeFixed_desk s m 1 x fun bytes => by
    dsimp only
    split
    · rfl
    · split
      · rfl
      · split
        · rfl
        · exact setUserSet_desk s _ _

theorem selectEffect_desk (m : Master) (x : Args) : (selectEffect m x s).desk = s.desk :=
  takeFixed_desk s m 1 x fun bytes => by split <;> rfl

theorem restartEffect_desk (m : Master) (x : Args) : (restartEffect m x s).desk = s.desk :=
  takeFixed_desk s m 0 x fun bytes => by split <;> rfl

theorem saveCompletionEffect_desk (verified : Bool) : (saveCompletionEffect verified s).desk = s.desk := by
  unfold saveCompletionEffect
  split
  · rfl
  · cases verified with
    | false => rfl
    | true => exact setUserSet_desk _ _ _

theorem cutEffect_desk (m : Master) (bs : List Byte) : (cutEffect m bs s).desk = s.desk := by
  unfold cutEffect
  split <;> rfl

theorem announce_desk : (announce s).desk = s.desk := by
  obtain ⟨n, q, e⟩ := announce_frame s
  rw [e]
  rfl

theorem quietEndEffect_desk : (quietEndEffect s).desk = s.desk := by
  unfold quietEndEffect
  split
  · rfl
  · exact announce_desk _

theorem rollTimerEffect_desk : (rollTimerEffect s).desk = s.desk := by
  unfold rollTimerEffect
  split
  · rfl
  · exact announce_desk s

theorem alertHoldEffect_desk : (alertHoldEffect s).desk = s.desk := by
  unfold alertHoldEffect
  split <;> rfl

theorem lineFrameEffect_desk (l : Lane) (f : RxFrame) : (lineFrameEffect l f s).desk = s.desk := by
  obtain ⟨n, b, q, o, a, h, k, e⟩ := lineFrameEffect_frame s l f
  rw [e]
  rfl

theorem bayFrameEffect_desk (m : Master) (f : RxFrame) : (bayFrameEffect m f s).desk = s.desk := by
  obtain ⟨n, b, a, h, k, e⟩ := bayFrameEffect_frame s m f
  rw [e]
  rfl

theorem bayDownEffect_desk (m : Master) : (bayDownEffect m s).desk = s.desk := by
  unfold bayDownEffect
  split <;> rfl

theorem bayTransmitEffect_desk (m : Master) : (bayTransmitEffect m s).desk = s.desk := by
  unfold bayTransmitEffect
  split <;> rfl

theorem pacingEffect_desk (m : Master) : (pacingEffect m s).desk = s.desk := by
  unfold pacingEffect
  dsimp only
  split
  · rfl
  · split
    · exact bayTransmitEffect_desk _ m
    · rfl

theorem lineLossEffect_desk (l : Lane) : (lineLossEffect l s).desk = s.desk := by
  unfold lineLossEffect
  split
  · rfl
  · dsimp only
    split <;> rfl

theorem glitchEffect_desk (l : Lane) : (glitchEffect l s).desk = s.desk := by
  unfold glitchEffect
  split <;> rfl

theorem linkFailEffect_desk (l : Lane) : (linkFailEffect l s).desk = s.desk := by
  unfold linkFailEffect
  split <;> rfl

theorem lineUp_desk (l : Lane) : (lineUp l s).desk = s.desk := by
  obtain ⟨n, o, k, e⟩ := lineUp_frame s l
  rw [e]
  rfl

theorem lineUpEffect_desk (l : Lane) : (lineUpEffect l s).desk = s.desk := by
  unfold lineUpEffect
  split
  · exact lineUp_desk s l
  · rfl

theorem settleEffect_desk (l : Lane) : (settleEffect l s).desk = s.desk := by
  unfold settleEffect
  split
  · obtain ⟨n, o, k, e⟩ := enterProbing_frame s l
    rw [e]
    rfl
  · rfl

theorem probeLimitEffect_desk (l : Lane) : (probeLimitEffect l s).desk = s.desk := by
  unfold probeLimitEffect
  split <;> rfl

theorem lineTransmitEffect_desk (l : Lane) : (lineTransmitEffect l s).desk = s.desk := by
  unfold lineTransmitEffect
  split <;> rfl

theorem endEvent_desk (cause : Bool) (before : Level) (i : Nat) : (endEvent cause before i s).desk = s.desk := by
  obtain ⟨o, k, e⟩ := endEvent_frame s cause before i
  rw [e]
  rfl

theorem pairExpiryEffect_desk (i : Nat) : (pairExpiryEffect i s).desk = s.desk := by
  unfold pairExpiryEffect
  split
  · rfl
  · split
    · rfl
    · exact endEvent_desk _ _ _ i

theorem silenceExpiryEffect_desk (i : Nat) : (silenceExpiryEffect i s).desk = s.desk := by
  unfold silenceExpiryEffect
  split
  · rfl
  · split
    · rfl
    · exact endEvent_desk _ _ _ i

theorem forgetExpiryEffect_desk (i : Nat) : (forgetExpiryEffect i s).desk = s.desk := by
  unfold forgetExpiryEffect
  split
  · rfl
  · split <;> rfl

theorem holdExpiryEffect_desk (i : Nat) : (holdExpiryEffect i s).desk = s.desk := by
  unfold holdExpiryEffect
  split
  · rfl
  · split
    · rfl
    · exact endEvent_desk _ _ _ i

end

/-! ## Bay-port settings in range, staged items that the form checks let pass -/

/-- Both pacing gaps are in range, and every staged item is one the form checks let pass. -/
structure DeskSound (d : PerMaster BaySettings × PerMaster (List Item)) : Prop where
  gaps : gapsInRange d.1
  items : ∀ m, ∀ it ∈ d.2.get m, it.fits

theorem gapsInRange_set {b : PerMaster BaySettings} (h : gapsInRange b) (m : Master) {x : BaySettings}
    (hx : x.gap ≤ 65535) : gapsInRange (b.set m x) := by
  cases m with
  | m1 => exact ⟨hx, h.2⟩
  | m2 => exact ⟨h.1, hx⟩

theorem gapsInRange_get {b : PerMaster BaySettings} (h : gapsInRange b) (m : Master) : (b.get m).gap ≤ 65535 := by
  cases m with
  | m1 => exact h.1
  | m2 => exact h.2

theorem staged_set {x : PerMaster (List Item)} (h : ∀ m, ∀ it ∈ x.get m, it.fits) (m : Master) {its : List Item}
    (hi : ∀ it ∈ its, it.fits) : ∀ n, ∀ it ∈ (x.set m its).get n, it.fits := fun n => by
  rw [PerMaster.get_set_eq]
  split
  · exact hi
  · exact h n

section
variable {s t : State} {m : Master}

theorem DeskSound.stage (h : DeskSound s.desk) (m : Master) (x : Args) : DeskSound (stageEffect m x s).desk := by
  unfold stageEffect
  generalize hown : (fun bytes => _) = own
  obtain e | ⟨e, -⟩ | ⟨bytes, -, -, -, e⟩ := takeCommand_cases s m x own
  · rw [e]; exact h
  · rw [e]; exact h
  · rw [e, ← hown]
    dsimp only
    split
    · exact h
    · split
      · exact h
      · split
        · exact h
        · next it hit =>
          refine ⟨h.gaps, staged_set h.items m fun x hx => ?_⟩
          rcases List.mem_append.1 hx with hx | hx
          · exact h.items m x hx
          · rw [List.mem_singleton.1 hx]
            exact formCheck_fits hit

theorem DeskSound.discard (h : DeskSound s.desk) (m : Master) (x : Args) : DeskSound (discardEffect m x s).desk := by
  unfold discardEffect
  generalize hown : (fun bytes => _) = own
  obtain e | ⟨e, -⟩ | ⟨bytes, -, -, -, e⟩ := takeFixed_cases s m 0 x own
  · rw [e]; exact h
  · rw [e]; exact h
  · rw [e, ← hown]
    dsimp only
    split
    · exact h
    · exact ⟨h.gaps, staged_set h.items m nofun⟩

/-- A pacing gap put is in range, being a number of two bytes (R133). -/
theorem baySettings_put_gap {b : BaySetting} {v : Nat} (hv : v < 65536) {x : BaySettings} (hx : x.gap ≤ 65535) :
    (x.put v b).gap ≤ 65535 := by
  cases b with
  | gap => exact Nat.le_of_lt_succ hv
  | _ => exact hx

/-- An item that reports its clamps leaves the state its operation left. -/
theorem ok_of_map {x : Except RefusalReason State} {b c : Bool} (h : (x.map fun s' => (s', b)) = .ok (t, c)) :
    x = .ok t := by
  cases x with
  | error e => cases h
  | ok u => cases h; rfl

theorem commitItem_gaps {it : Item} {c : Bool} (hit : it.fits) (hs : gapsInRange s.bayCfg)
    (h : commitItem m it s = .ok (t, c)) : gapsInRange t.bayCfg := by
  cases it with
  | originPut a f =>
    obtain ⟨o, q, k, e⟩ := putOrigin_frame (ok_of_map h)
    rwa [e]
  | originDelete a =>
    obtain ⟨o, q, k, e⟩ := deleteOrigin_frame (ok_of_map h)
    rwa [e]
  | originShare a =>
    obtain ⟨o, e⟩ := shareOrigin_frame (ok_of_map h)
    rwa [e]
  | groupJoin a cls =>
    obtain ⟨g, e⟩ := joinGroup_frame (ok_of_map h)
    rwa [e]
  | groupLeave a =>
    cases h
    obtain ⟨g, e⟩ := leaveGroup_frame s m a
    rwa [e]
  | globalPut g v1 v2 v3 =>
    obtain ⟨o, e⟩ := putGlobal_frame (ok_of_map h)
    rwa [e]
  | bayPut b v =>
    cases h
    exact gapsInRange_set hs m (baySettings_put_gap hit.1 (gapsInRange_get hs m))

theorem commitItems_gaps : ∀ {its : List Item} {n first first' : Nat} {s : State}, (∀ it ∈ its, it.fits) →
    gapsInRange s.bayCfg → commitItems m its n first s = .ok (t, first') → gapsInRange t.bayCfg
  | [], _, _, _, _, _, hs, h => by cases h; exact hs
  | it :: its, n, first, first', s, hits, hs, h => by
    obtain ⟨hit, hits⟩ := List.forall_mem_cons.1 hits
    simp only [commitItems] at h
    split at h
    · cases h
    · next hc => exact commitItems_gaps hits (commitItem_gaps hit hs hc) h

theorem DeskSound.takeApply (h : DeskSound s.desk) (m : Master) : DeskSound (takeApply m s).desk := by
  unfold Machine.takeApply
  dsimp only
  split
  · exact h
  · next s' first hc =>
    have hgaps := commitItems_gaps (h.items m) h.gaps hc
    obtain ⟨o, q, g, gl, bc, k, e⟩ := commitItems_frame hc
    obtain ⟨o', k', e'⟩ := compareAll_frame s'
    rw [e']
    refine ⟨hgaps, ?_⟩
    rw [e]
    exact staged_set h.items m nofun

theorem DeskSound.applyTaken (h : DeskSound s.desk) : DeskSound (applyTakenEffect s).desk := by
  unfold applyTakenEffect
  split
  · exact h.takeApply .m1
  · split
    · exact h.takeApply .m2
    · exact h

/-- Start-up takes the bay-port settings of the set it loads, and empties the staging areas (R174). -/
theorem startUp_desk (phys : Phys) (s : State) : ∃ c, Loadable s c ∧ (startUp phys s).desk = (c.bayCfg, ⟨[], []⟩) := by
  have hload : ∃ c, Loadable s c ∧ (loadStart (clearRuntime s)).desk = (c.bayCfg, ⟨[], []⟩) := by
    unfold loadStart
    dsimp only
    split
    · exact ⟨factorySet, .inl rfl, rfl⟩
    · next u hu =>
      split
      · cases u
        · exact ⟨s.set1.content, .inr (.inl rfl), rfl⟩
        · exact ⟨s.set2.content, .inr (.inr rfl), rfl⟩
      · exact ⟨factorySet, .inl rfl, rfl⟩
  have line (b : Bool) (l : Lane) (s : State) : (if b then lineUp l s else s).desk = s.desk := by
    split
    · exact lineUp_desk s l
    · rfl
  have bay (b : Bool) (m : Master) (s : State) : (if b then bayUpEffect m s else s).desk = s.desk := by
    split <;> rfl
  have hphys (s : State) : (readPhys phys s).desk = s.desk := by
    unfold readPhys
    rw [bay, bay, line, line]
  have hquiet (s : State) : (startQuiet s).desk = s.desk := by
    unfold startQuiet
    split
    · exact announce_desk s
    · rfl
  obtain ⟨c, hc, e⟩ := hload
  refine ⟨c, hc, ?_⟩
  unfold startUp
  rw [hquiet, hphys]
  exact e

theorem startUp_deskSound (phys : Phys) (hs : storedAll SetContent.inRange s) : DeskSound (startUp phys s).desk := by
  obtain ⟨c, hc, e⟩ := startUp_desk phys s
  obtain ⟨-, -, hgaps⟩ := hc.holds factorySet_inRange hs
  rw [e]
  exact ⟨hgaps, fun m => by cases m <;> exact nofun⟩

theorem exec_deskSound {c : Instr} (hs : storedAll SetContent.inRange s) (hd : DeskSound s.desk)
    (h : exec c s = .next t) : DeskSound t.desk := by
  have kept (e : t.desk = s.desk) : DeskSound t.desk := e ▸ hd
  cases c with
  | powerOn p => cases h; exact startUp_deskSound (s := { s with tick := 0, seconds := 0, restarts := 0 }) p hs
  | resetPin p => cases h; exact startUp_deskSound (s := { s with tick := 0, seconds := 0, restarts := 0 }) p hs
  | restartTakesEffect p =>
    cases h
    unfold restartTakesEffect
    split
    · exact startUp_deskSound (s := { s with restarts := s.restarts + 1 }) p hs
    · exact hd
  | stage m x => cases h; exact hd.stage m x
  | discardStaging m x => cases h; exact hd.discard m x
  | applyTaken => cases h; exact hd.applyTaken
  | startQuietEnd => cases h; exact kept (quietEndEffect_desk s)
  | lineFrameReceive l f => cases h; exact kept (lineFrameEffect_desk s l f)
  | bayFrameReceive m f => cases h; exact kept (bayFrameEffect_desk s m f)
  | bayLinkUp m => cases h; exact kept rfl
  | bayLinkDown m => cases h; exact kept (bayDownEffect_desk s m)
  | lineLinkLoss l => cases h; exact kept (lineLossEffect_desk s l)
  | glitch l => cases h; exact kept (glitchEffect_desk s l)
  | linkFailExpiry l => cases h; exact kept (linkFailEffect_desk s l)
  | lineLinkUp l => cases h; exact kept (lineUpEffect_desk s l)
  | settleExpiry l => cases h; exact kept (settleEffect_desk s l)
  | probeLimitExpiry l => cases h; exact kept (probeLimitEffect_desk s l)
  | rollCallTimerExpiry => cases h; exact kept (rollTimerEffect_desk s)
  | lineTransmitStart l => cases h; exact kept (lineTransmitEffect_desk s l)
  | lineTransmitDone l => cases h; exact kept rfl
  | bayTransmitStart m => cases h; exact kept (bayTransmitEffect_desk s m)
  | bayTransmitDone m => cases h; exact kept rfl
  | pacingTimerExpiry m => cases h; exact kept (pacingEffect_desk s m)
  | pairExpiry i => cases h; exact kept (pairExpiryEffect_desk s i)
  | silenceExpiry i => cases h; exact kept (silenceExpiryEffect_desk s i)
  | forgetExpiry i => cases h; exact kept (forgetExpiryEffect_desk s i)
  | holdExpiry i => cases h; exact kept (holdExpiryEffect_desk s i)
  | alertHoldExpiry => cases h; exact kept (alertHoldEffect_desk s)
  | secondsTick => cases h; exact kept rfl
  | cutTransaction m bs => cases h; exact kept (cutEffect_desk s m bs)
  | unknownCommand m code x => cases h; exact kept rfl
  | identify m x => cases h; exact kept (takeFixed_desk s m 0 x fun _ => rfl)
  | readOrigin m x => cases h; exact kept (readOriginEffect_desk s m x)
  | findOrigin m x => cases h; exact kept (takeFixed_desk s m 6 x fun _ => rfl)
  | readGroup m x => cases h; exact kept (readGroupEffect_desk s m x)
  | readPort m x => cases h; exact kept (readPortEffect_desk s m x)
  | readTime m x => cases h; exact kept (takeFixed_desk s m 0 x fun _ => rfl)
  | apply m x => cases h; exact kept (applyEffect_desk s m x)
  | readApplyResult m x => cases h; exact kept (takeFixed_desk s m 0 x fun _ => rfl)
  | readEvents m x => cases h; exact kept (takeFixed_desk s m 0 x fun _ => rfl)
  | ackEvents m x => cases h; exact kept (takeFixed_desk s m 2 x fun _ => rfl)
  | setEventMask m x => cases h; exact kept (takeFixed_desk s m 2 x fun _ => rfl)
  | readChanges m x => cases h; exact kept (takeFixed_desk s m 0 x fun _ => rfl)
  | ackRestart m x => cases h; exact kept (takeFixed_desk s m 0 x fun _ => rfl)
  | saveSet m x => cases h; exact kept (saveSetEffect_desk s m x)
  | saveCompletion verified => cases h; exact kept (saveCompletionEffect_desk s verified)
  | selectStartSet m x => cases h; exact kept (selectEffect_desk s m x)
  | restart m x => cases h; exact kept (restartEffect_desk s m x)

end

/-! ## The statement -/

theorem settingsInRange_iff (s : State) : SettingsInRange s ↔
    CensusInRange s.census ∧ DeskSound s.desk ∧ storedAll SetContent.inRange s := by
  constructor
  · intro ⟨hr, hg, hb, hstored, hone, htwo⟩
    exact ⟨⟨hr, hg⟩, ⟨hb, fun m => by cases m; exacts [hone, htwo]⟩, hstored⟩
  · intro ⟨⟨hr, hg⟩, ⟨hb, hitems⟩, hstored⟩
    exact ⟨hr, hg, hb, hstored, hitems .m1, hitems .m2⟩

theorem exec_settingsInRange {c : Instr} {s t : State} (hs : SettingsInRange s) (h : exec c s = .next t) :
    SettingsInRange t := by
  rw [settingsInRange_iff] at hs ⊢
  obtain ⟨hcensus, hdesk, hstored⟩ := hs
  have hdesk' := exec_deskSound hstored hdesk h
  rcases exec_cases h with ⟨m, hl⟩ | hm | ⟨set, u, hset, hu, hm⟩
  · exact ⟨hcensus.linkStep hl, hdesk', hl.storedAll (hcensus.snapshot hdesk.gaps) hstored⟩
  · exact ⟨hcensus.moves hm, hdesk', hm.storedAll hstored⟩
  · have hloaded : CensusInRange u.census := hu ▸ CensusInRange.loaded (hset.holds factorySet_inRange hstored) s
    exact ⟨hloaded.moves hm, hdesk', hm.storedAll (storedAll_of_loaded hu hstored)⟩

/-- Settles O12: the skew values by the invariant of the pipelines; the settings move by move, with the bay-port
settings and the staging areas command by command. -/
theorem skewValuesStayInRange : Obligations.SkewValuesStayInRange := fun _ _ hs =>
  ⟨fun h => step_skewBounded h hs,
    fun h => step_preserves (I := SettingsInRange) (fun _ _ _ h => h)
      (fun _ _ _ h he => exec_settingsInRange h he) h hs⟩

end Sys2Proof.Machine
end

section
/-! SUPPORT. Comparisons one after another, up to those that end an event (R105, R110): each finds what it would have
found at the start, because a notification moves only what was last notified. The hold expiry (R97). -/

namespace Sys2Proof.Machine

/-! ## What one comparison leaves for the next -/

section
variable {P Q C : Nat → Origin → Prop} {s t u : State}

/-- A record that compares finds a cause or an unheld difference, and notifies (R104, R106). -/
def Notifies (P C : Nat → Origin → Prop) (s : State) (i : Nat) (r : Origin) : Prop :=
  originAt s i = some r ∧ P i r ∧ (C i r ∨ ¬ Unheld s r r.notif)

/-- A control link told of the indices in `E`. -/
def ControlLink.Told (E : Nat → Prop) (c d : ControlLink) : Prop :=
  (∀ i, i ∈ d.changes ↔ i ∈ c.changes ∨ E i) ∧
  ((∃ i, E i) → d.flags = c.flags ||| EventKind.originChange.bit) ∧
  ((¬ ∃ i, E i) → d = c) ∧ d = { c with flags := d.flags, changes := d.changes }

theorem compared_iff : Compared P C s t ↔
    (∀ i, originAt s i = none → originAt t i = none) ∧
    (∀ i r, originAt s i = some r → ∃ n, originAt t i = some { r with notif := n } ∧
      (Notifies P C s i r → Unheld s r n) ∧ (¬ Notifies P C s i r → n = r.notif)) ∧
    ControlLink.Told (fun i => ∃ r, Notifies P C s i r) s.links.one t.links.one ∧
    ControlLink.Told (fun i => ∃ r, Notifies P C s i r) s.links.two t.links.two ∧
    t = { s with origins := t.origins, links := t.links } := Iff.rfl

theorem ControlLink.Told.trans {E F : Nat → Prop} {c d e : ControlLink} (h : Told E c d) (h' : Told F d e) :
    Told (fun i => E i ∨ F i) c e := by
  obtain ⟨hchanges, hflags, hsame, hrest⟩ := h
  obtain ⟨hchanges', hflags', hsame', hrest'⟩ := h'
  refine ⟨fun i => by rw [hchanges', hchanges, or_assoc], fun hsome => ?_, fun hnone => ?_, ?_⟩
  · by_cases hE : ∃ i, E i
    · by_cases hF : ∃ i, F i
      · rw [hflags' hF, hflags hE, BitVec.or_assoc, BitVec.or_self]
      · rw [hsame' hF, hflags hE]
    · obtain ⟨i, hi⟩ := hsome
      rw [hflags' ⟨i, hi.resolve_left fun h => hE ⟨i, h⟩⟩, hsame hE]
  · rw [hsame' fun ⟨i, hi⟩ => hnone ⟨i, .inr hi⟩, hsame fun ⟨i, hi⟩ => hnone ⟨i, .inl hi⟩]
  · rw [hrest', hrest]

/-- Which differences are held depends on no notified status but the record's own. -/
theorem Compared.caughtUp_eq (h : Compared P C s t) (r : Origin) : caughtUp t r = caughtUp s r := by
  obtain ⟨hnone, hsome, -, -, e⟩ := compared_iff.1 h
  have hlead : leadHolds t.origins r = leadHolds s.origins r := by
    unfold leadHolds
    cases r.cfg.ref with
    | none => rfl
    | some j =>
      cases hj : originAt s j with
      | none =>
        have hj' := hnone j hj
        unfold originAt at hj hj'
        simp only [hj, hj']
      | some lead =>
        obtain ⟨n, hj', -⟩ := hsome j lead hj
        unfold originAt at hj hj'
        simp only [hj, hj']
  have hport : portHolds t r = portHolds s r := by
    rw [e]
    rfl
  simp only [caughtUp, hlead, hport]

/-- A record that has caught up has nothing more to catch up. -/
theorem caughtUp_caughtUp (s : State) (r : Origin) : caughtUp s { r with notif := caughtUp s r } = caughtUp s r := by
  have again {α : Type} (b : Bool) (x y : α) : (if b then (if b then x else y) else y) = if b then x else y := by
    cases b <;> rfl
  have hlane : (caughtUp s { r with notif := caughtUp s r }).lane = (caughtUp s r).lane := by
    by_cases hp : portHolds s r = true
    · have hkept : (caughtUp s r).lane = r.notif.lane := if_pos hp
      have hp' : portHolds s { r with notif := caughtUp s r } = true := by
        unfold portHolds at hp ⊢
        dsimp only
        rw [hkept]
        exact hp
      exact if_pos hp'
    · have htaken : (caughtUp s r).lane = r.lane.state := if_neg hp
      dsimp only [caughtUp] at htaken ⊢
      rw [htaken]
      exact ite_self _
  exact (Notified.mk.injEq ..).mpr ⟨again .., again .., hlane⟩

theorem Compared.congr {P' C' : Nat → Origin → Prop} (h : Compared P C s t)
    (hP : ∀ k x, originAt s k = some x → (P k x ↔ P' k x)) (hC : ∀ k x, originAt s k = some x → (C k x ↔ C' k x)) :
    Compared P' C' s t := by
  have e : Notifies P' C' s = Notifies P C s := by
    funext k x
    refine propext (and_congr_right fun hx => ?_)
    rw [hP k x hx, hC k x hx]
  rw [compared_iff, e]
  exact h

theorem notifies_some {k : Nat} {x : Origin} (hx : originAt s k = some x) :
    (∃ r, Notifies P C s k r) ↔ Notifies P C s k x := by
  refine ⟨?_, fun h => ⟨x, h⟩⟩
  rintro ⟨r, hr, h⟩
  cases hx.symm.trans hr
  exact ⟨hr, h⟩

theorem notifies_none {k : Nat} (hk : originAt s k = none) : ¬ ∃ r, Notifies P C s k r := by
  rintro ⟨r, hr, -⟩
  cases hk.symm.trans hr

/-- Comparisons one after another are one: what the first notifies the second finds caught up, and what it leaves the
second finds as it was. -/
theorem Compared.trans (h : Compared P C s t) (h' : Compared Q (fun _ _ => False) t u)
    (hC : ∀ k x, C k x → P k x) : Compared (fun k x => P k x ∨ Q k x) C s u := by
  have hcaught := h.caughtUp_eq
  obtain ⟨hnone, hsome, hone, htwo, e⟩ := compared_iff.1 h
  obtain ⟨hnone', hsome', hone', htwo', e'⟩ := compared_iff.1 h'
  have fires {k : Nat} {x : Origin} {n : Notified} (hx : originAt s k = some x)
      (hn : originAt t k = some { x with notif := n }) (hyes : Notifies P C s k x → Unheld s x n)
      (hno : ¬ Notifies P C s k x → n = x.notif) : Notifies (fun k x => P k x ∨ Q k x) C s k x ↔
      Notifies P C s k x ∨ Notifies Q (fun _ _ => False) t k { x with notif := n } := by
    have hCk := hC k x
    by_cases hfirst : Notifies P C s k x
    · refine iff_of_true ?_ (.inl hfirst)
      obtain ⟨hx, hP, hdue⟩ := hfirst
      exact ⟨hx, .inl hP, hdue⟩
    · obtain rfl := hno hfirst
      simp only [Notifies, hx, hn, unheld_iff, hcaught, true_and, false_or] at hfirst ⊢
      tauto
  have told (k : Nat) : (∃ r, Notifies (fun k x => P k x ∨ Q k x) C s k r) ↔
      (∃ r, Notifies P C s k r) ∨ ∃ r, Notifies Q (fun _ _ => False) t k r := by
    cases hk : originAt s k with
    | none => exact iff_of_false (notifies_none hk) (not_or.2 ⟨notifies_none hk, notifies_none (hnone k hk)⟩)
    | some x =>
      obtain ⟨n, hn, hyes, hno⟩ := hsome k x hk
      rw [notifies_some hk, notifies_some hk, notifies_some hn]
      exact fires hk hn hyes hno
  rw [compared_iff, funext fun k => propext (told k)]
  refine ⟨fun k hk => hnone' k (hnone k hk), fun k x hx => ?_, hone.trans hone', htwo.trans htwo', by rw [e', e]⟩
  obtain ⟨n, hn, hyes, hno⟩ := hsome k x hx
  obtain ⟨n', hn', hyes', hno'⟩ := hsome' k _ hn
  have hf := fires hx hn hyes hno
  refine ⟨n', hn', fun hsu => ?_, fun hsu => ?_⟩
  · rw [unheld_iff]
    by_cases hst : Notifies P C s k x
    · obtain rfl := (unheld_iff n).1 (hyes hst)
      have htu : ¬ Notifies Q (fun _ _ => False) t k { x with notif := caughtUp s x } := fun ⟨_, _, hdue⟩ =>
        hdue.elim id fun hu => hu ((unheld_iff _).2 (by rw [hcaught, caughtUp_caughtUp]))
      exact hno' htu
    · obtain rfl := hno hst
      exact ((unheld_iff n').1 (hyes' ((hf.1 hsu).resolve_left hst))).trans (hcaught x)
  · obtain ⟨hst, htu⟩ := not_or.1 (mt hf.2 hsu)
    exact (hno' htu).trans (hno hst)

/-- A record that notifies is told of on both links. -/
theorem Compared.toldOf (h : Compared P C s t) {i : Nat} {r : Origin} (hn : Notifies P C s i r) : t.toldOf i := by
  obtain ⟨-, -, ⟨hone, hone', -⟩, ⟨htwo, htwo', -⟩, -⟩ := compared_iff.1 h
  have hflag (e : EventSet) : hasKind (e ||| EventKind.originChange.bit) .originChange = true := by
    simp [hasKind_or_bit]
  have hsome : ∃ i, ∃ r, Notifies P C s i r := ⟨i, r, hn⟩
  exact ⟨(hone i).2 (.inr ⟨r, hn⟩), (htwo i).2 (.inr ⟨r, hn⟩), hone' hsome ▸ hflag _, htwo' hsome ▸ hflag _⟩

end

/-! ## The comparisons that end an event (R105, R110) -/

section
variable {cause : Bool} {i : Nat} {r : Origin} {s : State}

/-- The comparison of one record, with a cause or without (R105, R106). -/
theorem compareAt_compared_cause (cause : Bool) (i : Nat) (s : State) :
    Compared (fun k _ => k = i) (fun k _ => cause = true ∧ k = i) s (compareAt cause i s) := by
  cases hr : originAt s i with
  | none =>
    rw [compareAt_of_free hr]
    refine .nobody ?_
    rintro k x ⟨hx, rfl, -⟩
    cases hr.symm.trans hx
  | some r =>
    rw [compareAt_of_taken hr]
    split
    · next hfires =>
      refine .alone hr ⟨rfl, hfires.imp (fun hc => ⟨hc, rfl⟩) fun hne hu => hne ((unheld_iff _).1 hu).symm⟩ ?_
      exact fun _ _ ⟨_, hk, _⟩ => hk
    · next hstays =>
      obtain ⟨hcause, hsame⟩ := not_or.1 hstays
      refine .nobody ?_
      rintro k x ⟨hx, rfl, hn⟩
      cases hr.symm.trans hx
      exact hn.elim (fun hc => hcause hc.1) fun hu => hu ((unheld_iff _).2 (not_not.1 hsame).symm)

theorem compareEach_compared : ∀ (is : List Nat) (s : State),
    Compared (fun k _ => k ∈ is) (fun _ _ => False) s (compareEach is s)
  | [], s => .nobody fun _ _ ⟨_, hk, _⟩ => by cases hk
  | i :: is, s =>
    ((compareAt_compared i s).trans (compareEach_compared is _) fun _ _ h => h.elim).congr
      (fun _ _ _ => List.mem_cons.symm) fun _ _ _ => Iff.rfl

/-- The members of a lead, in a table in canonical form. -/
theorem mem_membersOf (hc : tabWf 256 s.origins = true) {k : Nat} :
    k ∈ membersOf s i ↔ ∃ q, originAt s k = some q ∧ q.cfg.ref = some i := by
  simp only [membersOf, List.mem_map, List.mem_filter, decide_eq_true_eq, originAt, tabWf.get_iff hc]
  constructor
  · rintro ⟨⟨j, q⟩, ⟨hmem, href⟩, rfl⟩
    exact ⟨q, hmem, href⟩
  · rintro ⟨q, hmem, href⟩
    exact ⟨(k, q), ⟨hmem, href⟩, rfl⟩

/-- A comparison leaves a lead its members. -/
theorem mem_membersOf_compareAt (hc : tabWf 256 s.origins = true) {k : Nat} {q : Origin} (hq : originAt s k = some q) :
    k ∈ membersOf (compareAt cause i s) i ↔ q.cfg.ref = some i := by
  obtain ⟨hcanon, hstays⟩ := compareAt_statusAlone cause i s
  obtain ⟨n, hn⟩ := hstays k q hq
  rw [mem_membersOf (hcanon hc)]
  constructor
  · rintro ⟨x, hx, href⟩
    cases hn.symm.trans hx
    exact href
  · exact fun href => ⟨_, hn, href⟩

/-- The end of an event of a record: its own comparison, and those of some places, which in a canonical table are its
members' when it is a suppressing lead whose level fell from Excess or Gross below (R105, R110). -/
theorem endEvent_compared (hr : originAt s i = some r) (cause : Bool) (before : Level) : ∃ is : List Nat,
    Compared (fun k _ => k = i ∨ k ∈ is) (fun k _ => cause = true ∧ k = i) s (endEvent cause before i s) ∧
    (tabWf 256 s.origins = true → ∀ k q, originAt s k = some q →
      (k ∈ is ↔ (r.cfg.suppress = true ∧ (before = .excess ∨ before = .gross) ∧
        (r.pipe.level = .steady ∨ r.pipe.level = .drift)) ∧ q.cfg.ref = some i)) := by
  have hown := compareAt_compared_cause cause i s
  unfold endEvent
  dsimp only
  rw [originAt_compareAt hr]
  simp only [Level.high_iff, Level.low_iff]
  split
  · next hfell =>
    refine ⟨_, hown.trans (compareEach_compared _ _) fun _ _ h => h.2, fun hc k q hq => ?_⟩
    rw [mem_membersOf_compareAt hc hq]
    exact (and_iff_right hfell).symm
  · next hkept =>
    refine ⟨[], hown.congr (fun _ _ _ => by simp) fun _ _ _ => Iff.rfl, fun _ k q _ => ?_⟩
    exact iff_of_false nofun fun h => hkept h.1

end

/-! ## The hold expiry (R96, R97) -/

section
variable {i : Nat} {r : Origin} {s : State}

theorem holdExpiryEffect_idle (hr : originAt s i = some r) (h : r.pipe.hold = none ∨ r.pipe.hold = some 255) :
    holdExpiryEffect i s = s := by
  rw [holdExpiryEffect, hr]
  exact if_pos h

theorem holdExpiryEffect_rebases (hr : originAt s i = some r) {h : Nat} (hh : r.pipe.hold = some h) (hne : h ≠ 255) :
    holdExpiryEffect i s = endEvent true r.pipe.level i (s.setOrigin i { r with pipe := r.pipe.rebase }) := by
  rw [holdExpiryEffect, hr]
  refine if_neg ?_
  rw [hh]
  rintro (h' | h')
  · cases h'
  · cases h'
    exact hne rfl

end

/-- Settles O27: the rebase, and then the comparisons that end the event, the record's own with the rebase as cause. -/
theorem holdExpiryRebasesAndNotifies : Obligations.HoldExpiryRebasesAndNotifies := by
  intro i r s hr
  refine ⟨fun h => congrArg Host.Outcome.next (holdExpiryEffect_idle hr h), fun h hh hne => ?_⟩
  have hput : originAt (s.setOrigin i { r with pipe := r.pipe.rebase }) i = some { r with pipe := r.pipe.rebase } :=
    tabGet_tabPut_same ..
  obtain ⟨is, hcompared, hmembers⟩ := endEvent_compared hput true r.pipe.level
  obtain ⟨-, hsome, -⟩ := compared_iff.1 hcompared
  obtain ⟨n, hn, -⟩ := hsome i _ hput
  obtain ⟨hone, htwo, hflag1, hflag2⟩ := hcompared.toldOf ⟨hput, .inl rfl, .inl ⟨rfl, rfl⟩⟩
  refine ⟨_, { r with pipe := r.pipe.rebase, notif := n },
    congrArg Host.Outcome.next (holdExpiryEffect_rebases hr hh hne), hn, rfl, rfl, hone, htwo, hflag1, hflag2, ?_⟩
  intro hc fell
  have hcanon : tabWf 256 (s.setOrigin i { r with pipe := r.pipe.rebase }).origins = true :=
    tabWf_tabPut _ hc (tabWf.lt hc hr)
  refine hcompared.congr (fun k q hq => ?_) fun _ _ _ => and_iff_right rfl
  have hlow : r.pipe.rebase.level = .steady ∨ r.pipe.rebase.level = .drift := .inl rfl
  rw [hmembers hcanon k q hq, and_iff_left hlow]

end Sys2Proof.Machine
end

section
/-! SUPPORT. What a comparison gives where fields are held, and where they are not (R104, R107, R109). The comparison of
every record (R105, R112). -/

namespace Sys2Proof.Machine

/-! ## One comparison, by the fields it holds -/

section
variable {cause : Bool} {i : Nat} {r : Origin} {s : State} {n : Notified}

/-- A record whose last notified status has no unheld difference stays as it is (R105). -/
theorem compareAt_stays (hr : originAt s i = some r) (hu : Unheld s r r.notif) : compareAt false i s = s := by
  have hsame : caughtUp s r = r.notif := ((unheld_iff _).1 hu).symm
  rw [compareAt_of_taken hr, if_neg (not_or.2 ⟨Bool.false_ne_true, not_not.2 hsame⟩)]

/-- A record with a cause or an unheld difference takes what is not held (R104). -/
theorem compareAt_takes (hr : originAt s i = some r) (hu : Unheld s r n) (h : cause = true ∨ n ≠ r.notif) :
    compareAt cause i s = markChange i (s.setOrigin i { r with notif := n }) := by
  obtain rfl := (unheld_iff n).1 hu
  rw [compareAt_of_taken hr, if_pos h]

/-- While both ports are available no lane state is held (R109). -/
theorem not_portsHold_of_available (ha : ¬ (s.lines.a.state = .down ∨ s.lines.a.state = .settling))
    (hb : ¬ (s.lines.b.state = .down ∨ s.lines.b.state = .settling)) : ¬ PortsHold s r := by
  rintro ⟨-, -, -, -, -, -, -, -, haway⟩
  exact haway.elim ha hb

/-- A change into Silent or into Paired is never held by a port (R109). -/
theorem not_portsHold_of_silent_or_paired (h : r.lane.state = .silent ∨ r.lane.state = .paired) :
    ¬ PortsHold s r := by
  rintro ⟨hlossy, -⟩
  obtain h | h := h
  · simp [h] at hlossy
  · simp [h] at hlossy

end

/-! ## The comparison of every record -/

theorem compareAll_compared (s : State) : Compared (fun _ _ => True) (fun _ _ => False) s (compareAll s) :=
  (compareEach_compared (tabKeys s.origins) s).congr
    (fun _ _ hx => iff_true_intro (mem_tabKeys (mem_of_tabGet hx))) fun _ _ _ => Iff.rfl

/-- Settles O37: every clause names the part that a notification now gives the record, field by field. -/
theorem heldDifferencesDoNotNotify : Obligations.HeldDifferencesDoNotNotify := by
  intro i r s hr a b told takes
  refine ⟨⟨caughtUp s r, ?_⟩, ?_, ?_, ?_, ?_, ?_, ?_, ?_, fun _ => compareAll_compared s⟩
  · have hu : Unheld s r (caughtUp s r) := (unheld_iff _).2 rfl
    exact ⟨hu, fun h => compareAt_stays hr (h ▸ hu), fun h => compareAt_takes hr hu (.inr h),
      compareAt_takes hr hu (.inl rfl)⟩
  · intro hlead hlane
    exact compareAt_stays hr ⟨fun _ => ⟨rfl, rfl⟩, absurd hlead, fun _ => rfl, fun _ => hlane.symm⟩
  · intro haway hlossy hlevel hdir havailable
    have hport : PortsHold s r :=
      ⟨hlossy, _, _, fun h => if_pos h, fun h => if_neg h, fun h => if_pos h, fun h => if_neg h, havailable, haway⟩
    exact compareAt_stays hr ⟨fun _ => ⟨rfl, rfl⟩, fun _ => ⟨hlevel.symm, hdir.symm⟩, fun _ => rfl, absurd hport⟩
  · intro hlead ha hb hdiffers
    have hport : ¬ PortsHold s r := not_portsHold_of_available ha hb
    exact compareAt_takes hr ⟨fun h => absurd h hlead, fun _ => ⟨rfl, rfl⟩, fun h => absurd h hport, fun _ => rfl⟩
      (.inr hdiffers.symm)
  · intro hlead hport
    exact compareAt_takes hr ⟨fun _ => ⟨rfl, rfl⟩, absurd hlead, fun _ => rfl, absurd hport⟩ (.inl rfl)
  · intro hlead hlane hdiffers
    have hport : ¬ PortsHold s r := not_portsHold_of_silent_or_paired hlane
    exact compareAt_takes hr ⟨fun _ => ⟨rfl, rfl⟩, absurd hlead, fun h => absurd h hport, fun _ => rfl⟩
      (.inr fun e => hdiffers (congrArg Notified.lane e).symm)
  · intro hlead hport hdiffers
    refine compareAt_takes hr ⟨fun h => absurd h hlead, fun _ => ⟨rfl, rfl⟩, fun _ => rfl, absurd hport⟩ (.inr ?_)
    exact fun e => hdiffers.elim (· (congrArg Notified.level e).symm) (· (congrArg Notified.dir e).symm)
  · intro hc cause before fell
    obtain ⟨is, hcompared, hmembers⟩ := endEvent_compared hr cause before
    exact hcompared.congr (fun k q hq => or_congr_right (hmembers hc k q hq)) fun _ _ _ => Iff.rfl

end Sys2Proof.Machine
end

section
/-! SUPPORT. What a command of a link leaves alone besides the tables and the other link (R114, R148 to R151, R172): the
ports, their settings, the alert and roll-call units, and what stands at the other master. -/

namespace Sys2Proof.Machine

/-! ## What a link does not reach -/

/-- What a command that arrives on one link does not reach, besides the tables, the global settings and the other link:
the ports and units, and what belongs to the other master. -/
structure Beyond where
  staging      : List Item
  applyPending : Bool
  applyResult  : PerMaster ApplyResult
  saveResult   : SaveResult
  lines        : PerLane LinePort
  bays         : PerMaster BayPort
  bayCfg       : PerMaster BaySettings
  alert        : AlertState
  alertHold    : Timer
  rollTimer    : Timer
  rollSeq      : SeqNo
  quiet        : Timer

def State.beyond (m : Master) (s : State) : Beyond :=
  ⟨s.staging.get (otherMaster m), s.applyPending.get (otherMaster m), s.applyResult, s.saveResult.get (otherMaster m),
    s.lines, s.bays, s.bayCfg, s.alert, s.alertHold, s.rollTimer, s.rollSeq, s.quiet⟩

section
variable (m : Master) (s : State)

theorem stagingSet_beyond (its : List Item) :
    State.beyond m { s with staging := s.staging.set m its } = s.beyond m := by
  unfold State.beyond
  rw [PerMaster.get_set_other]

theorem applyPendingSet_beyond (p : Bool) :
    State.beyond m { s with applyPending := s.applyPending.set m p } = s.beyond m := by
  unfold State.beyond
  rw [PerMaster.get_set_other]

theorem reportSave_beyond (r : SaveResult) : (reportSave m r s).beyond m = s.beyond m := by
  unfold State.beyond reportSave
  rw [raiseFor_saveResult, PerMaster.get_set_other]
  rfl

theorem beginSave_beyond (requester : Master) (u : UserSlot) : (beginSave requester u s).beyond m = s.beyond m := by
  cases u <;> rfl

/-! ## The commands of a link -/

variable {m s}

theorem takeCommand_beyond {x : Args} {own : List Byte → State} (h : ∀ bytes, (own bytes).beyond m = s.beyond m) :
    (takeCommand m x s own).beyond m = s.beyond m := by
  obtain e | ⟨e, -⟩ | ⟨bytes, -, -, -, e⟩ := takeCommand_cases s m x own
  · rw [e]; rfl
  · rw [e]; rfl
  · rw [e, h]

theorem takeFixed_beyond {k : Nat} {x : Args} {own : List Byte → State}
    (h : ∀ bytes, (own bytes).beyond m = s.beyond m) : (takeFixed m k x s own).beyond m = s.beyond m := by
  obtain e | ⟨e, -⟩ | ⟨bytes, -, -, -, e⟩ := takeFixed_cases s m k x own
  · rw [e]; rfl
  · rw [e]; rfl
  · rw [e, h]

variable (m s)

theorem cutEffect_beyond (bs : List Byte) : (cutEffect m bs s).beyond m = s.beyond m := by
  unfold cutEffect
  split <;> rfl

theorem readOriginEffect_beyond (x : Args) : (readOriginEffect m x s).beyond m = s.beyond m :=
  takeFixed_beyond fun bytes => by
    split
    · rfl
    · split <;> rfl

theorem readGroupEffect_beyond (x : Args) : (readGroupEffect m x s).beyond m = s.beyond m :=
  takeFixed_beyond fun bytes => by split <;> rfl

theorem readPortEffect_beyond (x : Args) : (readPortEffect m x s).beyond m = s.beyond m :=
  takeFixed_beyond fun bytes => by split <;> rfl

theorem stageEffect_beyond (x : Args) : (stageEffect m x s).beyond m = s.beyond m :=
  takeCommand_beyond fun bytes => by
    split
    · rfl
    · split
      · rfl
      · split
        · rfl
        · exact stagingSet_beyond m s _

theorem discardEffect_beyond (x : Args) : (discardEffect m x s).beyond m = s.beyond m :=
  takeFixed_beyond fun bytes => by
    split
    · rfl
    · exact stagingSet_beyond m s []

theorem applyEffect_beyond (x : Args) : (applyEffect m x s).beyond m = s.beyond m :=
  takeFixed_beyond fun bytes => by
    split
    · rfl
    · exact applyPendingSet_beyond m s true

theorem saveSetEffect_beyond (x : Args) : (saveSetEffect m x s).beyond m = s.beyond m :=
  takeFixed_beyond fun bytes => by
    dsimp only
    split
    · rfl
    · split
      · rfl
      · split
        · exact reportSave_beyond m { s with startSet := .s0 } (.ok .s0)
        · exact beginSave_beyond m s m _

theorem selectEffect_beyond (x : Args) : (selectEffect m x s).beyond m = s.beyond m :=
  takeFixed_beyond fun bytes => by split <;> rfl

theorem restartEffect_beyond (x : Args) : (restartEffect m x s).beyond m = s.beyond m :=
  takeFixed_beyond fun bytes => by split <;> rfl

end

/-- No command of a link reaches beyond it. -/
theorem exec_beyond {c : Instr} {m : Master} {s t : State} (hm : c.link = some m) (h : exec c s = .next t) :
    t.beyond m = s.beyond m := by
  cases c with
  | cutTransaction _ bs => cases hm; cases h; exact cutEffect_beyond m s bs
  | unknownCommand _ code x => cases hm; cases h; rfl
  | identify _ x => cases hm; cases h; exact takeFixed_beyond fun _ => rfl
  | readOrigin _ x => cases hm; cases h; exact readOriginEffect_beyond m s x
  | findOrigin _ x => cases hm; cases h; exact takeFixed_beyond fun _ => rfl
  | readGroup _ x => cases hm; cases h; exact readGroupEffect_beyond m s x
  | readPort _ x => cases hm; cases h; exact readPortEffect_beyond m s x
  | readTime _ x => cases hm; cases h; exact takeFixed_beyond fun _ => rfl
  | stage _ x => cases hm; cases h; exact stageEffect_beyond m s x
  | discardStaging _ x => cases hm; cases h; exact discardEffect_beyond m s x
  | apply _ x => cases hm; cases h; exact applyEffect_beyond m s x
  | readApplyResult _ x => cases hm; cases h; exact takeFixed_beyond fun _ => rfl
  | readEvents _ x => cases hm; cases h; exact takeFixed_beyond fun _ => rfl
  | ackEvents _ x => cases hm; cases h; exact takeFixed_beyond fun _ => rfl
  | setEventMask _ x => cases hm; cases h; exact takeFixed_beyond fun _ => rfl
  | readChanges _ x => cases hm; cases h; exact takeFixed_beyond fun _ => rfl
  | ackRestart _ x => cases hm; cases h; exact takeFixed_beyond fun _ => rfl
  | saveSet _ x => cases hm; cases h; exact saveSetEffect_beyond m s x
  | selectStartSet _ x => cases hm; cases h; exact selectEffect_beyond m s x
  | restart _ x => cases hm; cases h; exact restartEffect_beyond m s x
  | _ => cases hm

/-- Settles O5: a step of a link keeps the tables and the other link, and reaches nothing beyond its own. -/
theorem linkCommandsTouchOnlyTheirLinkAndMaster : Obligations.LinkCommandsTouchOnlyTheirLinkAndMaster := by
  intro c m s t hm h
  have hlink : LinkStep m s t := exec_linkStep hm h
  obtain ⟨hstaging, hpending, hresult, hsaved, hlines, hbays, hbayCfg, halert, hhold, htimer, hseq, hquiet⟩ :=
    Beyond.mk.inj (exec_beyond hm h)
  exact ⟨hlink.other, hstaging, hpending, hresult, hsaved, hlink.origins, hlink.order, hlink.groups, hlines, hbays,
    hlink.globals, hbayCfg, halert, hhold, htimer, hseq, hquiet⟩

end Sys2Proof.Machine
end

section
/-! SUPPORT. The link of a line port and the frame on its wire (R116, R117, R127, R128): one equation for each of its
events, and the two statements about them. -/

namespace Sys2Proof.Machine

/-! ## One line port replaced -/

section
variable (l : Lane) (s : State)

theorem setLine_get : s.setLine l (s.lines.get l) = s := by
  rw [State.setLine, PerLane.set_get]

theorem onLine_setLine (p : LinePort) (f : LinePort → LinePort) : (s.setLine l p).onLine l f = s.setLine l (f p) := by
  simp only [State.onLine, State.setLine, PerLane.get_set, PerLane.set_set]

theorem raiseBoth_eq (k : EventKind) :
    raiseBoth k s = { s with links := ⟨s.links.one.raise k, s.links.two.raise k⟩ } := rfl

end

/-! ## The link (R116, R117) -/

theorem LinePort.linkPresent_iff (p : LinePort) : p.linkPresent = true ↔ p.state ≠ .down ∧ p.linkFail = none := by
  simp [LinePort.linkPresent]

theorem LinePort.linkPresent_eq_false_iff (p : LinePort) :
    p.linkPresent = false ↔ p.state = .down ∨ p.linkFail ≠ none := by
  rw [← Bool.not_eq_true, LinePort.linkPresent_iff, not_and_or, not_not]

section
variable {l : Lane} {s : State}

theorem lineLossEffect_of_unlinked (h : (s.lines.get l).linkPresent = false) : lineLossEffect l s = s := if_pos h

theorem lineLossEffect_of_linked (h : (s.lines.get l).linkPresent = true) : lineLossEffect l s =
    if s.globals.linkFailTime = 0 then lineDown l (s.setLine l (s.lines.get l).endSending)
    else s.setLine l { (s.lines.get l).endSending with linkFail := some s.globals.linkFailTime } := by
  rw [lineLossEffect, if_neg (by simp [h])]
  refine congrArg (ite _ _) ?_
  exact onLine_setLine l s (s.lines.get l).endSending fun p => { p with linkFail := some s.globals.linkFailTime }

theorem glitchEffect_of_idle (h : (s.lines.get l).linkFail = none) : glitchEffect l s = s := if_pos h

theorem glitchEffect_of_running (h : (s.lines.get l).linkFail ≠ none) : glitchEffect l s = s.setLine l
    { s.lines.get l with
      linkFail := none, cnt := { (s.lines.get l).cnt with glitch := (s.lines.get l).cnt.glitch + 1 } } := if_neg h

theorem linkFailEffect_of_idle (h : (s.lines.get l).linkFail = none) : linkFailEffect l s = s := if_pos h

theorem linkFailEffect_of_running (h : (s.lines.get l).linkFail ≠ none) : linkFailEffect l s = lineDown l s := if_neg h

/-- A port's way down, from any port put in its place. -/
theorem lineDown_setLine (p : LinePort) : lineDown l (s.setLine l p) = { s with
    lines := s.lines.set l p.wentDown
    links := ⟨(s.links.one.raise .linkLost).raise .lanePort, (s.links.two.raise .linkLost).raise .lanePort⟩ } := by
  rw [lineDown, onLine_setLine]
  rfl

end

/-! ## The frame on the wire (R127, R128) -/

section
variable (p : LinePort)

theorem LinePort.endSending_of_idle (h : p.sending = none) : p.endSending = p := by
  rw [LinePort.endSending, h]

theorem LinePort.endSending_of_sending {f : Sending} (h : p.sending = some f) :
    p.endSending = { p with sending := none, cnt := p.cnt.transmitted f.queue } := by
  rw [LinePort.endSending, h]

theorem LinePort.takeNext_of_prot {f : Frame} {fs : List Frame} (h : p.prot = f :: fs) :
    p.takeNext = { p with prot := fs, sending := some ⟨.protection, wireOf f.data⟩ } := by
  rw [LinePort.takeNext, h]

theorem LinePort.takeNext_of_back {f : Frame} {fs : List Frame} (hp : p.prot = []) (hb : p.back = f :: fs) :
    p.takeNext = { p with back := fs, sending := some ⟨.background, wireOf f.data⟩ } := by
  rw [LinePort.takeNext, hp, hb]

theorem LinePort.takeNext_of_empty (hp : p.prot = []) (hb : p.back = []) : p.takeNext = p := by
  rw [LinePort.takeNext, hp, hb]

end

section
variable {l : Lane} {s : State}

theorem lineTransmitEffect_of_free (hlink : (s.lines.get l).linkPresent = true)
    (hfree : (s.lines.get l).sending = none) : lineTransmitEffect l s = s.setLine l (s.lines.get l).takeNext :=
  if_pos ⟨hlink, hfree⟩

theorem lineTransmitEffect_of_busy
    (h : ¬ ((s.lines.get l).linkPresent = true ∧ (s.lines.get l).sending = none)) : lineTransmitEffect l s = s :=
  if_neg h

theorem lineDoneEffect_eq (l : Lane) (s : State) : lineDoneEffect l s = s.setLine l (s.lines.get l).endSending := rfl

end

/-! ## The statements about the link and the wire -/

/-- Settles O38: a loss ends the frame on the wire first, whichever way the port then goes. -/
theorem lineLinkLossGlitchAndFailure : Obligations.LineLinkLossGlitchAndFailure := by
  intro l s p ended fallen told down
  have hended : p.endSending = ended := by
    simp only [ended, LinePort.endSending]
    cases p.sending with
    | none => rfl
    | some f =>
      obtain ⟨queue, wire⟩ := f
      cases queue <;> rfl
  have hdown (q : LinePort) : lineDown l (s.setLine l q) = down q := lineDown_setLine q
  have hlink (h1 : p.state ≠ .down) (h2 : p.linkFail = none) : p.linkPresent = true := p.linkPresent_iff.2 ⟨h1, h2⟩
  refine ⟨fun h1 h2 htime => ?_, fun h1 h2 htime => ?_, fun h => ?_, fun h => ?_, fun h => ?_, fun h => ⟨?_, ?_⟩⟩
  · show Host.Outcome.next (lineLossEffect l s) = _
    rw [lineLossEffect_of_linked (hlink h1 h2), if_neg htime, ← hended]
  · show Host.Outcome.next (lineLossEffect l s) = _
    rw [lineLossEffect_of_linked (hlink h1 h2), if_pos htime, ← hended]
    exact congrArg _ (hdown _)
  · exact congrArg _ (lineLossEffect_of_unlinked (p.linkPresent_eq_false_iff.2 h))
  · exact congrArg _ (glitchEffect_of_running h)
  · refine congrArg _ ((linkFailEffect_of_running h).trans ?_)
    rw [← hdown p, setLine_get]
  · exact congrArg _ (glitchEffect_of_idle h)
  · exact congrArg _ (linkFailEffect_of_idle h)

/-- Settles O42: which queue the port serves, and which count the end of a transmission raises. -/
theorem lineTransmissionServesProtectionFirst : Obligations.LineTransmissionServesProtectionFirst := by
  intro l s p free
  have hstart (h : free) : exec (.lineTransmitStart l) s = .next (s.setLine l p.takeNext) := by
    obtain ⟨hstate, htimer, hfree⟩ := h
    exact congrArg _ (lineTransmitEffect_of_free (p.linkPresent_iff.2 ⟨hstate, htimer⟩) hfree)
  have hdone {f : Sending} (h : p.sending = some f) : exec (.lineTransmitDone l) s =
      .next (s.setLine l { p with sending := none, cnt := p.cnt.transmitted f.queue }) :=
    congrArg (fun q => Host.Outcome.next (s.setLine l q)) (p.endSending_of_sending h)
  refine ⟨fun f fs h hp => ?_, fun f fs h hp hb => ?_, fun h => ?_, fun w h => hdone h, fun w h => hdone h, fun h => ?_⟩
  · rw [hstart h, p.takeNext_of_prot hp]
  · rw [hstart h, p.takeNext_of_back hp hb]
  · by_cases hf : free
    · obtain ⟨hp, hb⟩ := h.resolve_left (not_not.2 hf)
      rw [hstart hf, p.takeNext_of_empty hp hb, setLine_get]
    · refine congrArg _ (lineTransmitEffect_of_busy fun hno => hf ?_)
      obtain ⟨hstate, htimer⟩ := p.linkPresent_iff.1 hno.1
      exact ⟨hstate, htimer, hno.2⟩
  · refine congrArg _ ((lineDoneEffect_eq l s).trans ?_)
    rw [p.endSending_of_idle h, setLine_get]

end Sys2Proof.Machine
end

section
/-! SUPPORT. A line port on its way up, lane assurance and the announcements (R118 to R125): one equation for each of
their events, and the three statements about them. -/

namespace Sys2Proof.Machine

/-! ## Link-up, the settle expiry and the probe limit (R118, R119, R123) -/

section
variable {l : Lane} {s : State}

/-- A port's way into Probing, from any port put in its place. -/
theorem enterProbing_setLine (p : LinePort) : enterProbing l (s.setLine l p) = compareAll { s with
    lines := s.lines.set l (p.probing s.globals.probeLimit)
    links := ⟨s.links.one.raise .lanePort, s.links.two.raise .lanePort⟩ } := by
  rw [enterProbing, onLine_setLine]
  rfl

theorem lineUp_of_settling (h : s.globals.settleTime ≠ 0) : lineUp l s = { s with
    lines := s.lines.set l
      { s.lines.get l with state := .settling, settle := some s.globals.settleTime, laneUp := 0 }
    links := ⟨s.links.one.raise .lanePort, s.links.two.raise .lanePort⟩ } := if_neg h

/-- A settle time of 0 leaves nothing of Settling: LANE PORT raised for it is raised for Probing again (R118). -/
theorem lineUp_of_instant (h : s.globals.settleTime = 0) :
    lineUp l s = enterProbing l (s.setLine l { s.lines.get l with laneUp := 0 }) := by
  refine (if_pos h).trans ?_
  rw [enterProbing_setLine, enterProbing, raiseBoth_eq, raiseBoth_eq]
  dsimp only [onLine_lines, onLine_links]
  simp only [State.onLine, State.setLine, PerLane.get_set, PerLane.set_set, ControlLink.raise_raise]
  rfl

theorem lineUpEffect_of_down (h : (s.lines.get l).state = .down) : lineUpEffect l s = lineUp l s := if_pos h

theorem lineUpEffect_of_up (h : (s.lines.get l).state ≠ .down) : lineUpEffect l s = s := if_neg h

theorem settleEffect_of_running (h : (s.lines.get l).state = .settling) (ht : (s.lines.get l).settle ≠ none) :
    settleEffect l s = enterProbing l s := if_pos ⟨h, Option.isSome_iff_ne_none.2 ht⟩

theorem settleEffect_of_idle (h : (s.lines.get l).state ≠ .settling ∨ (s.lines.get l).settle = none) :
    settleEffect l s = s :=
  if_neg fun hno => h.elim (· hno.1) (Option.isSome_iff_ne_none.1 hno.2)

theorem probeLimitEffect_of_running (h : (s.lines.get l).state = .probing) (ht : (s.lines.get l).probe ≠ none) :
    probeLimitEffect l s =
      raiseBoth .lanePort (s.setLine l { s.lines.get l with unconfirmed := true, probe := none }) :=
  if_pos ⟨h, Option.isSome_iff_ne_none.2 ht⟩

theorem probeLimitEffect_of_idle (h : (s.lines.get l).state ≠ .probing ∨ (s.lines.get l).probe = none) :
    probeLimitEffect l s = s :=
  if_neg fun hno => h.elim (· hno.1) (Option.isSome_iff_ne_none.1 hno.2)

end

/-- Settles O39: entry into Probing is the port's change followed by the comparison of every record. -/
theorem lineLinkUpSettleAndProbe : Obligations.LineLinkUpSettleAndProbe := by
  intro l s p told probing catchUp
  have hcatch (q : LinePort) : catchUp q (enterProbing l (s.setLine l q)) := by
    rw [enterProbing_setLine]
    exact compareAll_compared _
  refine ⟨fun h => congrArg _ (lineUpEffect_of_up h), fun h ht => ?_, fun h ht _ => ⟨_, ?_, hcatch _⟩,
    fun h ht _ => ⟨_, ?_, hcatch p⟩, fun h => congrArg _ (settleEffect_of_idle h),
    fun h ht => congrArg _ (probeLimitEffect_of_running h ht), fun h => congrArg _ (probeLimitEffect_of_idle h)⟩
  · exact congrArg _ ((lineUpEffect_of_down h).trans (lineUp_of_settling ht))
  · exact congrArg _ ((lineUpEffect_of_down h).trans (lineUp_of_instant ht))
  · rw [setLine_get]
    exact congrArg _ (settleEffect_of_running h ht)

/-! ## Lane assurance (R120, R121) -/

theorem AssuranceRun.add_eq {r : AssuranceRun} (h : r.len ≤ 3) (code : Lane) : r.add code =
    if r.code = some code then ⟨some code, min 3 (r.len + 1)⟩ else ⟨some code, 1⟩ := by
  unfold AssuranceRun.add
  split
  · next hc =>
    rw [← hc]
    split
    · rw [Nat.min_eq_right (by omega)]
    · rw [Nat.min_eq_left (by omega), show r.len = 3 by omega]
  · rfl

theorem AssuranceRun.add_code (code : Lane) (r : AssuranceRun) : (r.add code).code = some code := by
  unfold AssuranceRun.add
  split
  · assumption
  · rfl

theorem AssuranceRun.names_eq {code : Lane} {r : AssuranceRun} (h : r.code = some code) (l : Lane) :
    r.names l = if r.len = 3 then some (if code = l then .confirmed else .crossed) else none := by
  rw [AssuranceRun.names, h]

/-- The port that takes the state its run names (R121). -/
def LinePort.decided (st : PortState) (p : LinePort) : LinePort :=
  { p with state := st
           probe := if p.state = .probing then none else p.probe
           unconfirmed := if p.state = .probing then false else p.unconfirmed }

/-- What a link is told of a port that takes a named state (R121, R130). -/
def ControlLink.toldDecision (st : PortState) (c : ControlLink) : ControlLink :=
  if st = .crossed then (c.raise .lanePort).raise .crossed else c.raise .lanePort

section
variable {l : Lane} {s : State} {p : LinePort} {st : PortState}

/-- The decision of a port put in its place, by what its run names. -/
theorem decidePort_of_none (h : p.run.names l = none) : decidePort l (s.setLine l p) = s.setLine l p := by
  have hport : (s.setLine l p).lines.get l = p := PerLane.get_set ..
  unfold decidePort
  rw [hport]
  dsimp only
  rw [h]

theorem decidePort_of_same (h : p.run.names l = some p.state) : decidePort l (s.setLine l p) = s.setLine l p := by
  have hport : (s.setLine l p).lines.get l = p := PerLane.get_set ..
  unfold decidePort
  rw [hport]
  dsimp only
  rw [h]
  exact if_pos rfl

theorem decidePort_of_other (h : p.run.names l = some st) (hne : st ≠ p.state) :
    decidePort l (s.setLine l p) = { s with
      lines := s.lines.set l (p.decided st)
      links := ⟨s.links.one.toldDecision st, s.links.two.toldDecision st⟩ } := by
  have hport : (s.setLine l p).lines.get l = p := PerLane.get_set ..
  unfold decidePort ControlLink.toldDecision
  rw [hport]
  dsimp only
  rw [h]
  refine (if_neg hne).trans ?_
  simp only [State.setLine, PerLane.set_set]
  split <;> rfl

theorem countAssurance_of_unavailable (code : Lane) (h : (s.lines.get l).unavailable = true) :
    countAssurance l code s = s := if_pos h

theorem countAssurance_of_available (code : Lane) (h : ¬ (s.lines.get l).unavailable = true) :
    countAssurance l code s = decidePort l (s.setLine l { s.lines.get l with
      run := (s.lines.get l).run.add code
      cnt := { (s.lines.get l).cnt with assurance := (s.lines.get l).cnt.assurance + 1 } }) := if_neg h

end

/-- Settles O40: the run after the roll-call names a state when its length is 3, and that state is taken when it is
another. -/
theorem assuranceDecidesAtThree : Obligations.AssuranceDecidesAtThree := by
  intro l code s p run named counted told
  have hunavailable : p.unavailable = true ↔ p.state = .down ∨ p.state = .settling := p.unavailable_iff
  refine ⟨fun h => countAssurance_of_unavailable code (hunavailable.2 h), fun hdown hsettling hlen => ?_⟩
  have hrun : p.run.add code = run := AssuranceRun.add_eq hlen code
  have hcode : run.code = some code := by rw [← hrun, AssuranceRun.add_code]
  have hnames : counted.run.names l = if run.len = 3 then some named else none := AssuranceRun.names_eq hcode l
  have htold (c : ControlLink) : c.toldDecision named = told c := by
    unfold ControlLink.toldDecision
    by_cases hcrossed : named = .crossed
    · simp only [told, if_pos hcrossed]
      rfl
    · simp only [told, if_neg hcrossed]
      exact congrArg (fun e => { c with flags := e }) BitVec.or_zero.symm
  rw [countAssurance_of_available code (hunavailable.not.2 (not_or.2 ⟨hdown, hsettling⟩)), hrun]
  by_cases h3 : run.len = 3
  · rw [if_pos h3] at hnames
    by_cases hne : named ≠ p.state
    · rw [if_pos ⟨h3, hne⟩, ← htold, ← htold]
      exact decidePort_of_other hnames hne
    · rw [if_neg fun h => hne h.2]
      rw [not_not.1 hne] at hnames
      exact decidePort_of_same hnames
  · rw [if_neg h3] at hnames
    rw [if_neg fun h => h3 h.1]
    exact decidePort_of_none hnames

/-! ## Announcements (R124 to R126) -/

theorem LinePort.offer_rollCall (p : LinePort) (data : List Byte) : p.offer ⟨.rollCall, data⟩ =
    if p.state = .down then p
    else if p.prot.length < 48 then { p with prot := p.prot ++ [⟨.rollCall, data⟩] }
    else { p with cnt := { p.cnt with shedRoll := p.cnt.shedRoll + 1 } } := by
  simp only [LinePort.offer, LinePort.hasRoom_iff]
  rfl

section
variable {s : State}

theorem announce_of_down (h : s.lines.a.state = .down ∧ s.lines.b.state = .down) :
    announce s = { s with rollTimer := some s.globals.rollInterval } := if_pos h

theorem announce_of_link (h : ¬ (s.lines.a.state = .down ∧ s.lines.b.state = .down)) :
    announce s = offerLanes s.rollSeq .rollCall (rollCallBody s.station s.globals.rollInterval (knownStations s))
      { s with rollTimer := some s.globals.rollInterval, rollSeq := s.rollSeq + 1 } := if_neg h

theorem quietEndEffect_of_idle (h : s.quiet = none) : quietEndEffect s = s := if_pos h

theorem quietEndEffect_of_running (h : s.quiet ≠ none) : quietEndEffect s = announce { s with quiet := none } :=
  if_neg h

theorem rollTimerEffect_of_idle (h : s.rollTimer = none) : rollTimerEffect s = s := if_pos h

theorem rollTimerEffect_of_running (h : s.rollTimer ≠ none) : rollTimerEffect s = announce s := if_neg h

end

/-- Settles O41: the end of the start quiet and the timer's expiry make one announcement, told by what each port is
offered. -/
theorem announcementIsNumberedAndOffered : Obligations.AnnouncementIsNumberedAndOffered := by
  intro s body offered said
  have hsaid (q : Timer) : announce { s with quiet := q } = { said with quiet := q } := by
    by_cases hdown : s.lines.a.state = .down ∧ s.lines.b.state = .down
    · refine (announce_of_down (s := { s with quiet := q }) hdown).trans ?_
      simp only [said, if_pos hdown]
    · refine (announce_of_link (s := { s with quiet := q }) hdown).trans ?_
      simp only [said, if_neg hdown, offered, offerLanes, laneCopy, LinePort.offer_rollCall]
      rfl
  have hown : { said with quiet := s.quiet } = said := by
    simp only [said]
    split <;> rfl
  refine ⟨fun h => ?_, fun h => congrArg _ (quietEndEffect_of_idle h), fun h => ?_,
    fun h => congrArg _ (rollTimerEffect_of_idle h)⟩
  · exact congrArg _ ((quietEndEffect_of_running h).trans (hsaid none))
  · exact congrArg _ ((rollTimerEffect_of_running h).trans ((hsaid s.quiet).trans hown))

end Sys2Proof.Machine
end

section
/-! SUPPORT. What an event can do to a port, as a row of single moves, and what each move keeps: its queues within their
sizes (R127, R139), and a port without link empty and idle (R16, R117, R120, R121, R123, R128, R141). -/

namespace Sys2Proof.Machine

/-! ## Moves of a line port -/

/-- One move of a line port; `offers` says whether a frame may be offered to it. -/
inductive LineMove (offers : Prop) (p : LinePort) : LinePort → Prop
  | counted (n : Count) (c : LineCounts) : LineMove offers p { p with laneUp := n, cnt := c }
  | queued (f : Frame) (ho : offers) (hup : p.state ≠ .down) (hroom : p.hasRoom f.cls = true) :
    LineMove offers p (p.enqueue f)
  | took (hlink : p.linkPresent = true) : LineMove offers p p.takeNext
  | sent : LineMove offers p p.endSending
  | failing (n : Nat) (hup : p.state ≠ .down) (hfree : p.sending = none) :
    LineMove offers p { p with linkFail := some n }
  | returned : LineMove offers p { p with linkFail := none }
  | fell (hfree : p.linkFail ≠ none ∨ p.sending = none) : LineMove offers p p.wentDown
  | rose (n : Nat) (hdown : p.state = .down) :
    LineMove offers p { p with state := .settling, settle := some n, laneUp := 0 }
  | probed (limit : Nat) (hs : p.state = .settling) : LineMove offers p (p.probing limit)
  | overdue (hp : p.state = .probing) : LineMove offers p { p with unconfirmed := true, probe := none }
  | heard (code : Lane) (ha : ¬ p.unavailable = true) : LineMove offers p { p with run := p.run.add code }
  | decided {st : PortState} (hst : st = .confirmed ∨ st = .crossed) : LineMove offers p (p.decided st)

/-- A row of moves of a line port. -/
def LineMoves (offers : Prop) : LinePort → LinePort → Prop := Relation.ReflTransGen (LineMove offers)

/-- What every single move keeps, a row of moves keeps. -/
theorem reflTransGen_keeps {α : Type} {r : α → α → Prop} {I : α → Prop} {x y : α} (hI : ∀ {x y}, r x y → I x → I y)
    (h : Relation.ReflTransGen r x y) (hx : I x) : I y := by
  induction h with
  | refl => exact hx
  | tail _ hm ih => exact hI hm ih

/-- A queue with room for one more frame has its size with it. -/
theorem length_snoc_le {fs : List Frame} {n : Nat} (f : Frame) (h : fs.length < n) : (fs ++ [f]).length ≤ n := by
  simpa using Nat.succ_le_of_lt h

section
variable {offers : Prop} {p q : LinePort}

theorem LineMove.mono {more : Prop} (ho : offers → more) (h : LineMove offers p q) : LineMove more p q := by
  cases h with
  | counted n c => exact .counted n c
  | queued f h hup hroom => exact .queued f (ho h) hup hroom
  | took hlink => exact .took hlink
  | sent => exact .sent
  | failing n hup hfree => exact .failing n hup hfree
  | returned => exact .returned
  | fell hfree => exact .fell hfree
  | rose n hdown => exact .rose n hdown
  | probed limit hs => exact .probed limit hs
  | overdue hp => exact .overdue hp
  | heard code ha => exact .heard code ha
  | decided hst => exact .decided hst

theorem LineMoves.mono {more : Prop} (ho : offers → more) (h : LineMoves offers p q) : LineMoves more p q :=
  Relation.ReflTransGen.mono (fun _ _ => LineMove.mono ho) _ _ h

theorem LineMoves.counted (n : Count) (c : LineCounts) : LineMoves offers p { p with laneUp := n, cnt := c } :=
  .single (.counted n c)

variable (p)

theorem LinePort.enqueue_frame (f : Frame) : ∃ ps bs, p.enqueue f = { p with prot := ps, back := bs } := by
  rw [LinePort.enqueue_eq]
  split <;> exact ⟨_, _, rfl⟩

theorem LinePort.endSending_frame : ∃ c, p.endSending = { p with sending := none, cnt := c } := by
  cases h : p.sending with
  | none => exact ⟨p.cnt, by rw [p.endSending_of_idle h, ← h]⟩
  | some f => exact ⟨_, p.endSending_of_sending h⟩

/-- A port takes from its queues and adds nothing to them. -/
theorem LinePort.takeNext_frame : ∃ ps bs w, p.takeNext = { p with prot := ps, back := bs, sending := w } ∧
    ps.length ≤ p.prot.length ∧ bs.length ≤ p.back.length := by
  cases hp : p.prot with
  | cons f fs => exact ⟨_, _, _, p.takeNext_of_prot hp, Nat.le_succ _, Nat.le_refl _⟩
  | nil =>
    cases hb : p.back with
    | cons f fs => exact ⟨_, _, _, p.takeNext_of_back hp hb, hp ▸ Nat.le_refl _, Nat.le_succ _⟩
    | nil => exact ⟨_, _, _, p.takeNext_of_empty hp hb, hp ▸ Nat.le_refl _, hb ▸ Nat.le_refl _⟩

variable {p}

/-- Only an offer lengthens a queue, and only one with room. -/
theorem LineMove.queues (h : LineMove offers p q) :
    (q.prot.length ≤ p.prot.length ∧ q.back.length ≤ p.back.length) ∨
      (offers ∧ ∃ f, p.hasRoom f.cls = true ∧ q = p.enqueue f) := by
  have same : p.prot.length ≤ p.prot.length ∧ p.back.length ≤ p.back.length := ⟨Nat.le_refl _, Nat.le_refl _⟩
  cases h with
  | queued f ho hup hroom => exact .inr ⟨ho, f, hroom, rfl⟩
  | took hlink =>
    obtain ⟨ps, bs, w, e, hps, hbs⟩ := p.takeNext_frame
    rw [e]
    exact .inl ⟨hps, hbs⟩
  | sent =>
    obtain ⟨c, e⟩ := p.endSending_frame
    rw [e]
    exact .inl same
  | fell hfree => exact .inl ⟨Nat.zero_le _, Nat.zero_le _⟩
  | counted n c => exact .inl same
  | failing n hup hfree => exact .inl same
  | returned => exact .inl same
  | rose n hdown => exact .inl same
  | probed limit hs => exact .inl same
  | overdue hp => exact .inl same
  | heard code ha => exact .inl same
  | decided hst => exact .inl same

theorem LineMove.queuesFit (h : LineMove offers p q) (hp : p.queuesFit) : q.queuesFit := by
  obtain ⟨hprot, hback⟩ := hp
  obtain ⟨hps, hbs⟩ | ⟨-, f, hroom, rfl⟩ := h.queues
  · exact ⟨hps.trans hprot, hbs.trans hback⟩
  · rw [LinePort.hasRoom_iff] at hroom
    rw [LinePort.enqueue_eq]
    by_cases hf : f.cls = .bulk
    · rw [if_pos hf] at hroom ⊢
      exact ⟨hprot, length_snoc_le f hroom⟩
    · rw [if_neg hf] at hroom ⊢
      exact ⟨length_snoc_le f hroom, hback⟩

/-- A line port whose queues are both empty (R126). -/
def LinePort.queuesEmpty (p : LinePort) : Prop := p.prot = [] ∧ p.back = []

theorem LineMove.queuesEmpty (ho : ¬ offers) (h : LineMove offers p q) (hp : p.queuesEmpty) : q.queuesEmpty := by
  obtain ⟨hprot, hback⟩ := hp
  obtain ⟨hps, hbs⟩ | ⟨h, -⟩ := h.queues
  · rw [hprot] at hps
    rw [hback] at hbs
    exact ⟨List.length_eq_zero_iff.1 (Nat.le_zero.1 hps), List.length_eq_zero_iff.1 (Nat.le_zero.1 hbs)⟩
  · exact absurd h ho

theorem AssuranceRun.add_len_le {r : AssuranceRun} (h : r.len ≤ 3) (code : Lane) : (r.add code).len ≤ 3 := by
  rw [AssuranceRun.add_eq h]
  split
  · exact Nat.min_le_left 3 _
  · exact Nat.le_add_left 1 2

theorem LineMove.consistent (h : LineMove offers p q) (hp : p.consistent) : q.consistent := by
  obtain ⟨hdown, hwire, hunconfirmed, hsettling, hlen⟩ := hp
  cases h with
  | counted n c => exact ⟨hdown, hwire, hunconfirmed, hsettling, hlen⟩
  | queued f ho hup hroom =>
    obtain ⟨ps, bs, e⟩ := p.enqueue_frame f
    rw [e]
    exact ⟨fun hd => absurd hd hup, hwire, hunconfirmed, hsettling, hlen⟩
  | took hlink =>
    obtain ⟨ps, bs, w, e, -⟩ := p.takeNext_frame
    obtain ⟨hup, hfail⟩ := p.linkPresent_iff.1 hlink
    rw [e]
    exact ⟨fun hd => absurd hd hup, fun h => (h.elim hup (· hfail)).elim, hunconfirmed, hsettling, hlen⟩
  | sent =>
    obtain ⟨c, e⟩ := p.endSending_frame
    rw [e]
    exact ⟨hdown, fun _ => rfl, hunconfirmed, hsettling, hlen⟩
  | failing n hup hfree => exact ⟨fun hd => absurd hd hup, fun _ => hfree, hunconfirmed, hsettling, hlen⟩
  | returned =>
    refine ⟨fun hd => ?_, fun h => hwire (h.imp_right (absurd rfl)), hunconfirmed, hsettling, hlen⟩
    obtain ⟨hprot, hback, hrun, hflag, -, hsettle, hprobe⟩ := hdown hd
    exact ⟨hprot, hback, hrun, hflag, rfl, hsettle, hprobe⟩
  | fell hfree =>
    exact ⟨fun _ => ⟨rfl, rfl, rfl, rfl, rfl, rfl, rfl⟩, fun _ => hfree.elim (fun h => hwire (.inr h)) id, nofun, nofun,
      Nat.zero_le 3⟩
  | rose n hd =>
    obtain ⟨-, -, hrun, hflag, -⟩ := hdown hd
    exact ⟨nofun, fun _ => hwire (.inl hd), fun h => absurd (hflag.symm.trans h) nofun, fun _ => hrun, hlen⟩
  | probed limit hs => exact ⟨nofun, fun h => hwire (.inr (h.resolve_left nofun)), fun _ => rfl, nofun, Nat.zero_le 3⟩
  | overdue hs => exact ⟨fun hd => absurd (hs.symm.trans hd) nofun, hwire, fun _ => hs, hsettling, hlen⟩
  | heard code ha =>
    rw [LinePort.unavailable_iff, not_or] at ha
    exact ⟨fun hd => absurd hd ha.1, hwire, hunconfirmed, fun hs => absurd hs ha.2, AssuranceRun.add_len_le hlen code⟩
  | decided hst =>
    refine ⟨fun hd => ?_, fun h => hwire (.inr (h.resolve_left fun hd => ?_)), fun hflag => ?_, fun hs => ?_, hlen⟩
    · exact hst.elim (fun h => absurd (h.symm.trans hd) nofun) fun h => absurd (h.symm.trans hd) nofun
    · exact hst.elim (fun h => absurd (h.symm.trans hd) nofun) fun h => absurd (h.symm.trans hd) nofun
    · have hflag : (if p.state = .probing then false else p.unconfirmed) = true := hflag
      split at hflag
      · cases hflag
      · next hne => exact absurd (hunconfirmed hflag) hne
    · exact hst.elim (fun h => absurd (h.symm.trans hs) nofun) fun h => absurd (h.symm.trans hs) nofun

end

/-! ## Moves of a bay port -/

/-- One move of a bay port. -/
inductive BayMove (p : BayPort) : BayPort → Prop
  | counted (n : SeqNo) (c : BayCounts) : BayMove p { p with sendSeq := n, cnt := c }
  | met (src : Addr) (hup : p.up = true) : BayMove p (p.meet src)
  | queued (f : Frame) (hup : p.up = true) (hroom : p.hasRoom f.cls = true) : BayMove p (p.enqueue f)
  | took (gap : Nat) (hup : p.up = true) : BayMove p (p.takeNext gap)
  | sent : BayMove p p.endSending
  | paced : BayMove p { p with pacing := none }
  | rose : BayMove p { p with up := true }
  | fell : BayMove p p.wentDown

/-- A row of moves of a bay port. -/
def BayMoves : BayPort → BayPort → Prop := Relation.ReflTransGen BayMove

section
variable (p : BayPort)

theorem BayPort.enqueue_frame (f : Frame) : ∃ ps bs, p.enqueue f = { p with prot := ps, back := bs } := by
  rw [BayPort.enqueue_eq]
  split <;> exact ⟨_, _, rfl⟩

theorem BayPort.endSending_frame : ∃ c, p.endSending = { p with sending := none, cnt := c } := by
  cases h : p.sending with
  | none =>
    have hidle : p.endSending = p := by rw [BayPort.endSending, h]
    exact ⟨p.cnt, hidle.trans (by rw [← h])⟩
  | some f => exact ⟨_, by rw [BayPort.endSending, h]⟩

theorem BayPort.takeNext_frame (gap : Nat) : ∃ ps bs w t,
    p.takeNext gap = { p with prot := ps, back := bs, sending := w, pacing := t } ∧
    ps.length ≤ p.prot.length ∧ bs.length ≤ p.back.length := by
  have kept : ∃ ps bs w t, p = { p with prot := ps, back := bs, sending := w, pacing := t } ∧
      ps.length ≤ p.prot.length ∧ bs.length ≤ p.back.length := ⟨_, _, _, _, rfl, Nat.le_refl _, Nat.le_refl _⟩
  unfold BayPort.takeNext
  split
  · next f fs hp => exact ⟨_, _, _, _, rfl, hp ▸ Nat.le_succ _, Nat.le_refl _⟩
  · next f fs _ hb =>
    split
    · exact kept
    · exact ⟨_, _, _, _, rfl, Nat.le_refl _, hb ▸ Nat.le_succ _⟩
  · exact kept

variable {p} {q : BayPort}

theorem BayMove.queuesFit (h : BayMove p q) (hp : p.queuesFit) : q.queuesFit := by
  cases h with
  | counted n c => exact hp
  | met src hup =>
    obtain ⟨a, n, e⟩ := BayPort.meet_frame src p
    rw [e]
    exact hp
  | queued f hup hroom =>
    obtain ⟨hprot, hback⟩ := hp
    rw [BayPort.hasRoom_iff] at hroom
    rw [BayPort.enqueue_eq]
    by_cases hf : f.cls = .bulk
    · rw [if_pos hf] at hroom ⊢
      exact ⟨hprot, length_snoc_le f hroom⟩
    · rw [if_neg hf] at hroom ⊢
      exact ⟨length_snoc_le f hroom, hback⟩
  | took gap hup =>
    obtain ⟨ps, bs, w, t, e, hps, hbs⟩ := p.takeNext_frame gap
    obtain ⟨hprot, hback⟩ := hp
    rw [e]
    exact ⟨hps.trans hprot, hbs.trans hback⟩
  | sent =>
    obtain ⟨c, e⟩ := p.endSending_frame
    rw [e]
    exact hp
  | paced => exact hp
  | rose => exact hp
  | fell => exact ⟨Nat.zero_le _, Nat.zero_le _⟩

theorem BayMove.consistent (h : BayMove p q) (hp : p.consistent) : q.consistent := by
  have up {r : BayPort} (hr : r.up = true) : r.consistent := fun hdown => absurd (hr.symm.trans hdown) nofun
  cases h with
  | counted n c => exact hp
  | met src hup =>
    obtain ⟨a, n, e⟩ := BayPort.meet_frame src p
    exact up (e ▸ hup)
  | queued f hup hroom =>
    obtain ⟨ps, bs, e⟩ := p.enqueue_frame f
    exact up (e ▸ hup)
  | took gap hup =>
    obtain ⟨ps, bs, w, t, e, -⟩ := p.takeNext_frame gap
    exact up (e ▸ hup)
  | sent =>
    obtain ⟨c, e⟩ := p.endSending_frame
    rw [e]
    intro hdown
    obtain ⟨hstation, hprot, hback, -, hpacing⟩ := hp hdown
    exact ⟨hstation, hprot, hback, rfl, hpacing⟩
  | paced =>
    intro hdown
    obtain ⟨hstation, hprot, hback, hsending, -⟩ := hp hdown
    exact ⟨hstation, hprot, hback, hsending, rfl⟩
  | rose => exact up rfl
  | fell =>
    rw [BayPort.wentDown_eq]
    exact fun _ => ⟨rfl, rfl, rfl, rfl, rfl⟩

end

end Sys2Proof.Machine
end

section
/-! SUPPORT. The frames and the events of the ports as rows of port moves (chapters 2, 7 and 8): every command but the
resets, the announcements and those of a control link makes such rows and leaves the staging areas and the store
alone, or changes only these. -/

namespace Sys2Proof.Machine

/-! ## Rows of moves of all ports -/

/-- The staging areas, the stored sets and the save in flight. -/
structure Stock where
  staging : PerMaster (List Item)
  set1    : UserSet
  set2    : UserSet
  save    : Option SaveRecord

def State.stock (s : State) : Stock := ⟨s.staging, s.set1, s.set2, s.save⟩

/-- The ports, the timers of the roll-call and alert units, and the stock. -/
structure Plant where
  lines     : PerLane LinePort
  bays      : PerMaster BayPort
  quiet     : Timer
  rollTimer : Timer
  alert     : AlertState
  alertHold : Timer
  stock     : Stock

def State.plant (s : State) : Plant := ⟨s.lines, s.bays, s.quiet, s.rollTimer, s.alert, s.alertHold, s.stock⟩

/-- Every port makes a row of moves; the start quiet, the roll-call timer and the stock stay, and the alert hold timer
keeps running exactly in Alert. -/
structure PortMoves (offers : Prop) (s t : State) : Prop where
  line : ∀ l, LineMoves offers (s.lines.get l) (t.lines.get l)
  bay : ∀ m, BayMoves (s.bays.get m) (t.bays.get m)
  quiet : t.quiet = s.quiet
  timer : t.rollTimer = s.rollTimer
  alert : AlertTimed s → AlertTimed t
  stock : t.stock = s.stock

namespace PortMoves
variable {offers : Prop} {s t u : State}

theorem of_plant (h : t.plant = s.plant) : PortMoves offers s t := by
  obtain ⟨hlines, hbays, hquiet, htimer, halert, hhold, hstock⟩ := Plant.mk.inj h
  refine ⟨fun l => ?_, fun m => ?_, hquiet, htimer, fun ha => ?_, hstock⟩
  · rw [hlines]
    exact .refl
  · rw [hbays]
    exact .refl
  · rwa [AlertTimed, halert, hhold]

theorem refl (s : State) : PortMoves offers s s := of_plant rfl

theorem trans (h : PortMoves offers s t) (h' : PortMoves offers t u) : PortMoves offers s u where
  line l := Relation.ReflTransGen.trans (h.line l) (h'.line l)
  bay m := Relation.ReflTransGen.trans (h.bay m) (h'.bay m)
  quiet := h'.quiet.trans h.quiet
  timer := h'.timer.trans h.timer
  alert ha := h'.alert (h.alert ha)
  stock := h'.stock.trans h.stock

theorem after (h' : PortMoves offers t u) (h : PortMoves offers s t) : PortMoves offers s u := h.trans h'

/-- Moves that lead to one state lead to every state with the same plant. -/
theorem to_plant (h : PortMoves offers s t) (e : u.plant = t.plant) : PortMoves offers s u := h.trans (of_plant e)

theorem withLines {x : PerLane LinePort} (h : ∀ l, LineMoves offers (s.lines.get l) (x.get l)) :
    PortMoves offers s { s with lines := x } :=
  ⟨h, fun _ => .refl, rfl, rfl, id, rfl⟩

theorem setLine {l : Lane} {p : LinePort} (h : LineMoves offers (s.lines.get l) p) :
    PortMoves offers s (s.setLine l p) :=
  withLines fun k => by
    rw [PerLane.get_set_eq]
    split
    · next hk => exact hk ▸ h
    · exact .refl

theorem countLine (l : Lane) (f : LineCounts → LineCounts) (s : State) : PortMoves offers s (s.countLine l f) :=
  setLine (.counted _ _)

theorem setBay {m : Master} {p : BayPort} (h : BayMoves (s.bays.get m) p) : PortMoves offers s (s.setBay m p) where
  line _ := .refl
  bay n := by
    rw [setBay_bays, PerMaster.get_set_eq]
    split
    · next hn => exact hn ▸ h
    · exact .refl
  quiet := rfl
  timer := rfl
  alert := id
  stock := rfl

theorem countBay (m : Master) (f : BayCounts → BayCounts) (s : State) : PortMoves offers s (s.countBay m f) :=
  setBay (.single (.counted _ _))

end PortMoves

/-! ## Records and their comparisons (R72 to R74, R105) -/

section
variable {offers : Prop} (s : State)

theorem endEvent_plant (cause : Bool) (before : Level) (i : Nat) : (endEvent cause before i s).plant = s.plant := by
  obtain ⟨o, k, e⟩ := endEvent_frame s cause before i
  rw [e]
  rfl

theorem compareAll_plant : (compareAll s).plant = s.plant := by
  obtain ⟨o, k, e⟩ := compareAll_frame s
  rw [e]
  rfl

theorem placeOrigin_plant (r : Origin) : (placeOrigin r s).plant = s.plant := by
  obtain ⟨k, e⟩ := placeOrigin_frame s r
  rw [e]
  rfl

/-- Charged pairs change counts of the ports alone (R74). -/
theorem Closing.Charged.line_counted {x : Lane} {n : Nat} {c c' : Closing} (h : Closing.Charged x n c c') :
    LineMoves offers (c.lines.get x) (c'.lines.get x) := by
  rw [h.line]
  split
  · exact .counted _ _
  · exact .refl

theorem judge_lines (g : JudgeSettings) (k : Copy) (c : Closing) (l : Lane) :
    LineMoves offers (c.lines.get l) ((judge g k c).closing.lines.get l) := by
  by_cases h : (judge g k c).verdict.accepted = true
  · obtain ⟨r, d, -, hcharged, e⟩ := judge_accepted_closing h
    rw [e]
    exact (hcharged l).line_counted
  · have hrow := judge_judgedBy g k c
    generalize judge g k c = j at h hrow
    cases hrow with
    | late hs hp hd hq => exact .refl
    | again hs hp hd hq hf => exact .refl
    | twin hs hp hd hq hf => exact .refl
    | stale hs hp hr => exact .refl
    | _ => exact absurd rfl h

theorem judgeCopy_portMoves (created : Bool) (i : Nat) (r : Origin) (k : Copy) :
    PortMoves offers s (judgeCopy created i r k s).1 := by
  rw [judgeCopy_eq]
  have hlines : PortMoves offers s { s with lines := (judge (judgeSettings s.globals) k ⟨s.lines, r⟩).closing.lines } :=
    .withLines (judge_lines _ k ⟨s.lines, r⟩)
  exact hlines.to_plant (endEvent_plant _ _ _ i)

theorem filterCopy_portMoves (a : Addr) (k : Copy) : PortMoves offers s (filterCopy a k s).1 := by
  unfold filterCopy
  split
  · exact judgeCopy_portMoves s false _ _ k
  · dsimp only
    split
    · exact .refl s
    · split
      · exact .after (judgeCopy_portMoves _ true _ _ k) (.of_plant (placeOrigin_plant s _))
      · split
        · exact .refl s
        · exact .after (judgeCopy_portMoves _ true _ _ k) (.of_plant rfl)

theorem takeProxy_portMoves (n : Nat) (l : Lane) (a : Addr) : PortMoves offers s (takeProxy n l a s) := by
  unfold takeProxy
  split
  · split
    · exact .of_plant rfl
    · exact .refl s
  · split
    · exact .refl s
    · split
      · exact .countLine l _ s
      · obtain ⟨k, e⟩ := createSilent_frame s (Origin.learn s.globals.profile a (.rollCallOf n))
        dsimp only
        rw [e]
        exact .of_plant rfl

theorem takeProxies_portMoves (n : Nat) (l : Lane) : ∀ (as : List Addr) (s : State),
    PortMoves offers s (takeProxies n l as s)
  | [], s => .refl s
  | a :: as, s => (takeProxy_portMoves s n l a).trans (takeProxies_portMoves n l as _)

/-! ## Offers and deliveries (R135 to R138) -/

theorem bayOutcome_eq_enqueued {m : Master} {cls : TrafficClass} {s : State} (h : bayOutcome m cls s = .enqueued) :
    (s.bays.get m).up = true ∧ (s.bays.get m).hasRoom cls = true := by
  unfold bayOutcome at h
  split at h
  · cases h
  · next hup =>
    split at h
    · cases h
    · split at h
      · next hroom => exact ⟨eq_true_of_ne_false hup, hroom⟩
      · cases h

theorem offerBay_portMoves (m : Master) (f : Frame) : PortMoves offers s (offerBay m f s) := by
  unfold offerBay
  split
  · exact .refl s
  · exact .countBay m _ s
  · exact (PortMoves.countBay m (.drop f.cls.queue) s).to_plant rfl
  · next h =>
    obtain ⟨hup, hroom⟩ := bayOutcome_eq_enqueued h
    exact .setBay (.single (.queued f hup hroom))

theorem offerLocal_portMoves (m : Master) (f : Frame) : PortMoves offers s (offerLocal m f s) := by
  unfold offerLocal
  split
  · exact (offerBay_portMoves s m f).trans (.countBay m _ _)
  · exact offerBay_portMoves s m f

theorem offerWhere_portMoves (pick : Master → Bool) (f : Frame) : PortMoves offers s (offerWhere pick f s) := by
  have offered (m : Master) (t : State) : PortMoves offers t (t.offeredIf (pick m) m f) := by
    unfold State.offeredIf
    split
    · exact offerBay_portMoves t m f
    · exact .refl t
  exact (offered .m1 s).trans (offered .m2 _)

theorem countUnknown_portMoves (m : Master) : PortMoves offers s (countUnknown m s) := by
  unfold countUnknown
  split
  · exact .refl s
  · exact .countBay m _ s

theorem deliver_portMoves (l : Lane) (a : Addr) (f : Frame) : PortMoves offers s (deliver l a f s) := by
  unfold deliver
  split
  · exact offerWhere_portMoves s _ f
  · split
    · split
      · exact offerWhere_portMoves s _ f
      · exact .after (offerWhere_portMoves _ _ f) ((countUnknown_portMoves s .m1).trans (countUnknown_portMoves _ .m2))
    · split
      · exact offerWhere_portMoves s _ f
      · exact .countLine l _ s

/-- A trip report enters Alert with the hold timer running (R143). -/
theorem reported_alertTimed (cls : TrafficClass) (h : AlertTimed s) : AlertTimed (s.reported cls) := by
  unfold AlertTimed at h ⊢
  rw [reported_alert, reported_alertHold]
  split
  · exact iff_of_true rfl rfl
  · exact h

theorem reported_portMoves (cls : TrafficClass) : PortMoves offers s (s.reported cls) := by
  have halert := reported_alertTimed s cls
  obtain ⟨a, h, k, e⟩ := reported_frame cls s
  rw [e] at halert ⊢
  exact ⟨fun _ => .refl, fun _ => .refl, rfl, rfl, halert, rfl⟩

/-! ## Frames from the lanes (R8, R9, R11 to R13, R38 to R41, R120) -/

theorem decidePort_portMoves {l : Lane} {p : LinePort} {s : State} (h : LineMoves offers (s.lines.get l) p) :
    PortMoves offers s (decidePort l (s.setLine l p)) := by
  cases hn : p.run.names l with
  | none =>
    rw [decidePort_of_none hn]
    exact .setLine h
  | some st =>
    by_cases hst : st = p.state
    · rw [decidePort_of_same (hst ▸ hn)]
      exact .setLine h
    · have hnamed : st = .confirmed ∨ st = .crossed := by
        unfold AssuranceRun.names at hn
        split at hn
        · split at hn
          · cases hn
            split
            · exact .inl rfl
            · exact .inr rfl
          · cases hn
        · cases hn
      rw [decidePort_of_other hn hst]
      exact (PortMoves.setLine (Relation.ReflTransGen.tail h (.decided hnamed))).to_plant rfl

theorem countAssurance_portMoves (l code : Lane) : PortMoves offers s (countAssurance l code s) := by
  by_cases h : (s.lines.get l).unavailable = true
  · rw [countAssurance_of_unavailable code h]
    exact .refl s
  · rw [countAssurance_of_available code h]
    exact decidePort_portMoves (Relation.ReflTransGen.tail (.single (.heard code h)) (.counted _ _))

theorem rollCallUnit_portMoves (announcer : Option Nat) (l : Lane) (t : Tagged) :
    PortMoves offers s (rollCallUnit announcer l t s) := by
  unfold rollCallUnit
  split
  · cases announcer with
    | none => exact countAssurance_portMoves s l t.code
    | some i => exact (takeProxies_portMoves i l _ s).trans (countAssurance_portMoves _ l t.code)
  · exact .countLine l _ s

theorem handOn_portMoves (announcer : Option Nat) (l : Lane) (t : Tagged) :
    PortMoves offers s (handOn announcer l t s) := by
  refine (reported_portMoves s t.cls).trans ?_
  rw [handOn_eq, State.passedOn]
  split
  · exact rollCallUnit_portMoves _ announcer l t
  · split
    · exact .countLine l _ _
    · exact deliver_portMoves _ l t.dest _

theorem untagged_portMoves (l : Lane) (data : List Byte) : PortMoves offers s (untagged l data s) := by
  unfold untagged
  split
  · exact .countLine l _ s
  · exact deliver_portMoves s l _ _

theorem pairFilter_portMoves (l : Lane) (t : Tagged) : PortMoves offers s (pairFilter l t s) := by
  unfold pairFilter
  split
  · exact .countLine l _ s
  · have hfiltered := filterCopy_portMoves (offers := offers) s t.source ⟨l, t.seq, s.tick⟩
    generalize filterCopy t.source ⟨l, t.seq, s.tick⟩ s = filtered at hfiltered
    obtain ⟨s', out⟩ := filtered
    cases out with
    | overflow => exact .after (handOn_portMoves _ none l t) (hfiltered.trans (.countLine l _ s'))
    | judged i v =>
      dsimp only
      split
      · exact hfiltered.trans (handOn_portMoves s' (some i) l t)
      · exact hfiltered

theorem lineFrameEffect_portMoves (l : Lane) (f : RxFrame) : PortMoves offers s (lineFrameEffect l f s) := by
  unfold lineFrameEffect
  split
  · exact .refl s
  · split
    · exact .countLine l _ s
    · split
      · exact untagged_portMoves s l _
      · exact .after (untagged_portMoves _ l _) (.countLine l _ s)
      · exact pairFilter_portMoves s l _

/-! ## Frames from the relays (R16 to R30) -/

theorem LinePort.offer_lineMoves (ho : offers) (p : LinePort) (f : Frame) : LineMoves offers p (p.offer f) := by
  by_cases hup : p.state = .down
  · rw [LinePort.offer_of_down f hup]
    exact .refl
  · by_cases hroom : p.hasRoom f.cls = true
    · rw [LinePort.offer_of_room hup hroom]
      exact .single (.queued f ho hup hroom)
    · rw [LinePort.offer_of_full hup hroom]
      exact .counted _ _

theorem offerLanes_portMoves (ho : offers) (seq : SeqNo) (cls : TrafficClass) (body : List Byte) :
    PortMoves offers s (offerLanes seq cls body s) :=
  .withLines fun l => by
    cases l with
    | a => exact LinePort.offer_lineMoves ho _ _
    | b => exact LinePort.offer_lineMoves ho _ _

/-- The lanes get a relay frame only while the start quiet does not run (R24). -/
theorem quiet_of_laneCheck_passed {x : Master} {cls : TrafficClass} {n : Nat} {s : State}
    (h : laneCheck x cls n s = .passed) : s.quiet = none := by
  unfold laneCheck at h
  split at h
  · cases h
  · split at h
    · cases h
    · next hq => exact Option.not_isSome_iff_eq_none.1 hq

theorem sendToLanes_portMoves (x : Master) (cls : TrafficClass) (body : List Byte) :
    PortMoves (s.quiet = none) s (sendToLanes x cls body s) := by
  cases h : laneCheck x cls body.length s with
  | oversize =>
    rw [sendToLanes_of_oversize h]
    exact .countBay x _ s
  | quiet =>
    rw [sendToLanes_of_quiet h]
    exact .countBay x _ s
  | shed =>
    rw [sendToLanes_of_shed h]
    exact .countBay x _ s
  | passed =>
    rw [sendToLanes_of_passed h, sendNumbered]
    have hquiet : s.quiet = none := quiet_of_laneCheck_passed h
    have hnumbered : PortMoves (s.quiet = none) s (s.onBay x fun p =>
        { p with sendSeq := p.sendSeq + 1, cnt := p.cnt.sent cls }) := .setBay (.single (.counted _ _))
    have hoffered := hnumbered.trans (offerLanes_portMoves _ hquiet (s.bays.get x).sendSeq cls body)
    split
    · exact hoffered.trans (.countBay x _ _)
    · exact hoffered

theorem bayFrameEffect_portMoves (m : Master) (f : RxFrame) :
    PortMoves (s.quiet = none) s (bayFrameEffect m f s) := by
  unfold bayFrameEffect
  split
  · exact .refl s
  · next hup =>
    split
    · exact .countBay m _ s
    · have hmet : PortMoves (s.quiet = none) (s.reported (classByTable s (destOf f.data)))
          ((s.reported (classByTable s (destOf f.data))).onBay m (.meet (sourceOf f.data))) := by
        refine .setBay (.single (.met _ ?_))
        rw [reported_bays]
        exact eq_true_of_ne_false hup
      have hbefore : PortMoves (s.quiet = none) s (s.beforeLanes m f.data) := by
        refine ((reported_portMoves s _).trans hmet).trans ?_
        unfold State.beforeLanes State.copiedTo
        split
        · exact offerLocal_portMoves _ _ _
        · exact .refl _
      have hsent := sendToLanes_portMoves (s.beforeLanes m f.data) m (classByTable s (destOf f.data)) f.data
      rw [beforeLanes_quiet] at hsent
      exact hbefore.trans hsent

/-! ## The events of the line ports (R116 to R119, R123, R127 to R129) -/

theorem enterProbing_portMoves {l : Lane} {p : LinePort} {s : State} (h : LineMoves offers (s.lines.get l) p)
    (hs : p.state = .settling) : PortMoves offers s (enterProbing l (s.setLine l p)) := by
  rw [enterProbing_setLine]
  have hprobed : PortMoves offers s (s.setLine l (p.probing s.globals.probeLimit)) :=
    .setLine (Relation.ReflTransGen.tail h (.probed _ hs))
  exact hprobed.to_plant (compareAll_plant _)

theorem lineUp_portMoves {l : Lane} {s : State} (h : (s.lines.get l).state = .down) :
    PortMoves offers s (lineUp l s) := by
  have hrose : LineMoves offers (s.lines.get l)
      { s.lines.get l with state := .settling, settle := some s.globals.settleTime, laneUp := 0 } :=
    .single (.rose s.globals.settleTime h)
  by_cases ht : s.globals.settleTime = 0
  · have hprobed := enterProbing_portMoves hrose rfl
    rw [enterProbing_setLine] at hprobed
    rw [lineUp_of_instant ht, enterProbing_setLine]
    exact hprobed
  · rw [lineUp_of_settling ht]
    exact (PortMoves.setLine hrose).to_plant rfl

theorem lineUpEffect_portMoves (l : Lane) : PortMoves offers s (lineUpEffect l s) := by
  unfold lineUpEffect
  split
  · next h => exact lineUp_portMoves h
  · exact .refl s

theorem settleEffect_portMoves (l : Lane) : PortMoves offers s (settleEffect l s) := by
  unfold settleEffect
  split
  · next h =>
    have hprobed := enterProbing_portMoves (offers := offers) (l := l) (s := s) .refl h.1
    rwa [setLine_get] at hprobed
  · exact .refl s

theorem probeLimitEffect_portMoves (l : Lane) : PortMoves offers s (probeLimitEffect l s) := by
  unfold probeLimitEffect
  split
  · next h => exact (PortMoves.setLine (.single (.overdue h.1))).to_plant rfl
  · exact .refl s

theorem lineDown_portMoves {l : Lane} {p : LinePort} {s : State} (h : LineMoves offers (s.lines.get l) p)
    (hfree : p.linkFail ≠ none ∨ p.sending = none) : PortMoves offers s (lineDown l (s.setLine l p)) := by
  rw [lineDown_setLine]
  exact (PortMoves.setLine (Relation.ReflTransGen.tail h (.fell hfree))).to_plant rfl

theorem lineLossEffect_portMoves (l : Lane) : PortMoves offers s (lineLossEffect l s) := by
  by_cases h : (s.lines.get l).linkPresent = true
  · have hsent : LineMoves offers (s.lines.get l) (s.lines.get l).endSending := .single .sent
    obtain ⟨hup, -⟩ := (s.lines.get l).linkPresent_iff.1 h
    obtain ⟨c, e⟩ := (s.lines.get l).endSending_frame
    rw [lineLossEffect_of_linked h]
    rw [e] at hsent ⊢
    split
    · exact lineDown_portMoves hsent (.inr rfl)
    · exact .setLine (Relation.ReflTransGen.tail hsent (.failing _ hup rfl))
  · rw [lineLossEffect_of_unlinked (eq_false_of_ne_true h)]
    exact .refl s

theorem glitchEffect_portMoves (l : Lane) : PortMoves offers s (glitchEffect l s) := by
  unfold glitchEffect
  split
  · exact .refl s
  · exact .setLine (Relation.ReflTransGen.tail (.single .returned) (.counted _ _))

theorem linkFailEffect_portMoves (l : Lane) : PortMoves offers s (linkFailEffect l s) := by
  unfold linkFailEffect
  split
  · exact .refl s
  · next h =>
    have hfell := lineDown_portMoves (offers := offers) (l := l) (s := s) .refl (.inl h)
    rwa [setLine_get] at hfell

theorem lineTransmitEffect_portMoves (l : Lane) : PortMoves offers s (lineTransmitEffect l s) := by
  unfold lineTransmitEffect
  split
  · next h => exact .setLine (.single (.took h.1))
  · exact .refl s

theorem lineDoneEffect_portMoves (l : Lane) : PortMoves offers s (lineDoneEffect l s) := .setLine (.single .sent)

theorem secondsEffect_portMoves : PortMoves offers s (secondsEffect s) := by
  have second (p : LinePort) : LineMoves offers p p.second := by
    unfold LinePort.second
    split
    · exact .refl
    · exact .counted _ _
  have hlines : PortMoves offers s { s with lines := ⟨s.lines.a.second, s.lines.b.second⟩ } :=
    .withLines fun l => by
      cases l with
      | a => exact second _
      | b => exact second _
  exact hlines.to_plant rfl

/-! ## The events of the bay ports (R16, R139 to R141) -/

theorem bayUpEffect_portMoves (m : Master) : PortMoves offers s (bayUpEffect m s) := .setBay (.single .rose)

theorem bayDownEffect_portMoves (m : Master) : PortMoves offers s (bayDownEffect m s) := by
  unfold bayDownEffect
  split
  · exact .setBay (.single .fell)
  · exact .refl s

theorem bayTransmitEffect_portMoves (m : Master) : PortMoves offers s (bayTransmitEffect m s) := by
  unfold bayTransmitEffect
  split
  · next h => exact .setBay (.single (.took _ h.1))
  · exact .refl s

theorem bayDoneEffect_portMoves (m : Master) : PortMoves offers s (bayDoneEffect m s) := .setBay (.single .sent)

theorem pacingEffect_portMoves (m : Master) : PortMoves offers s (pacingEffect m s) := by
  have hpaced : PortMoves offers s (s.onBay m fun p => { p with pacing := none }) := .setBay (.single .paced)
  unfold pacingEffect
  dsimp only
  split
  · exact .refl s
  · split
    · exact hpaced.trans (bayTransmitEffect_portMoves _ m)
    · exact hpaced

/-! ## The alert hold and the timers of records (R47, R49, R69, R97, R143) -/

theorem alertHoldEffect_portMoves : PortMoves offers s (alertHoldEffect s) := by
  unfold alertHoldEffect
  split
  · exact .refl s
  · exact ⟨fun _ => .refl, fun _ => .refl, rfl, rfl, fun _ => iff_of_false nofun nofun, rfl⟩

theorem pairExpiryEffect_portMoves (i : Nat) : PortMoves offers s (pairExpiryEffect i s) := by
  unfold pairExpiryEffect
  split
  · exact .refl s
  · next r hr =>
    split
    · exact .refl s
    · next p hp =>
      exact (PortMoves.withLines fun x => (closeMissing_charged s.globals.lossLimit p ⟨s.lines, r⟩ x).line_counted)
        |>.to_plant (endEvent_plant _ _ _ i)

theorem silenceExpiryEffect_portMoves (i : Nat) : PortMoves offers s (silenceExpiryEffect i s) := by
  unfold silenceExpiryEffect
  split
  · exact .refl s
  · next r hr =>
    obtain ⟨-, hcharged⟩ := fallSilent_charged s.globals.lossLimit s.lines r
    split
    · exact .refl s
    · exact (PortMoves.withLines fun x => (hcharged x).line_counted).to_plant (endEvent_plant _ _ _ i)

theorem forgetExpiryEffect_portMoves (i : Nat) : PortMoves offers s (forgetExpiryEffect i s) := by
  unfold forgetExpiryEffect
  split
  · exact .refl s
  · split
    · exact .refl s
    · exact .of_plant rfl

theorem holdExpiryEffect_portMoves (i : Nat) : PortMoves offers s (holdExpiryEffect i s) := by
  unfold holdExpiryEffect
  split
  · exact .refl s
  · split
    · exact .refl s
    · exact .of_plant (endEvent_plant _ _ _ i)

end

end Sys2Proof.Machine
end

section
/-! SUPPORT. What a command keeps of the ports, of the roll-call and alert units, of the staging areas and of a save in
flight: each makes rows of port moves from the state before it, or from a state that start-up has cleared. The
statements about the queues, and about the relations of the ports, the alert unit, the staging areas and the save. -/

namespace Sys2Proof.Machine

/-! ## What the plant says -/

theorem stagingBounded_iff (s : State) : StagingBounded s ↔ ∀ m, (s.staging.get m).length ≤ Config.maxStaged :=
  ⟨fun h m => by cases m; exacts [h.1, h.2], fun h => ⟨h .m1, h .m2⟩⟩

theorem queuesBounded_iff (s : State) :
    QueuesBounded s ↔ (∀ l, (s.lines.get l).queuesFit) ∧ ∀ m, (s.bays.get m).queuesFit :=
  ⟨fun ⟨ha, hb, h1, h2⟩ => ⟨fun l => by cases l; exacts [ha, hb], fun m => by cases m; exacts [h1, h2]⟩,
    fun ⟨hl, hm⟩ => ⟨hl .a, hl .b, hm .m1, hm .m2⟩⟩

theorem portsConsistent_iff (s : State) :
    PortsConsistent s ↔ (∀ l, (s.lines.get l).consistent) ∧ ∀ m, (s.bays.get m).consistent :=
  ⟨fun ⟨ha, hb, h1, h2⟩ => ⟨fun l => by cases l; exacts [ha, hb], fun m => by cases m; exacts [h1, h2]⟩,
    fun ⟨hl, hm⟩ => ⟨hl .a, hl .b, hm .m1, hm .m2⟩⟩

theorem quietHolds_iff (s : State) :
    QuietHolds s ↔ (s.quiet ≠ none → s.rollTimer = none ∧ ∀ l, (s.lines.get l).queuesEmpty) := by
  rw [QuietHolds, ← Option.isSome_iff_ne_none]
  exact imp_congr_right fun _ => and_congr_right fun _ =>
    ⟨fun ⟨hap, hab, hbp, hbb⟩ l => by cases l; exacts [⟨hap, hab⟩, ⟨hbp, hbb⟩], fun h =>
      ⟨(h .a).1, (h .a).2, (h .b).1, (h .b).2⟩⟩

section
variable {s t : State}

theorem StagingBounded.set (h : StagingBounded s) (m : Master) {its : List Item} (hi : its.length ≤ Config.maxStaged)
    (ht : t.staging = s.staging.set m its) : StagingBounded t := by
  rw [stagingBounded_iff] at h ⊢
  intro n
  rw [ht, PerMaster.get_set_eq]
  split
  · exact hi
  · exact h n

theorem StagingBounded.of_same (h : StagingBounded s) (ht : t.staging = s.staging) : StagingBounded t := by
  rwa [StagingBounded, ht]

/-- What a save in flight says of its set depends on the save and the sets alone. -/
theorem SaveInvalidates.of_stock (h : SaveInvalidates s) (ht : t.stock = s.stock) : SaveInvalidates t := by
  obtain ⟨-, h1, h2, hsave⟩ := Stock.mk.inj ht
  intro r hr
  have hset : t.userSet r.slot = s.userSet r.slot := by
    cases r.slot with
    | u1 => exact h1
    | u2 => exact h2
  rw [hset]
  exact h r (hsave ▸ hr)

theorem saveInvalidates_of_idle (h : s.save = none) : SaveInvalidates s := fun r hr => by
  rw [h] at hr
  cases hr

end

/-! ## One event -/

/-- What one event makes of the plant: rows of port moves, with offers to the lanes only where the start quiet does not
run afterwards or the roll-call timer ran before (R24, R124, R126), and the other relations kept. -/
structure EventStep (s t : State) : Prop where
  line : ∀ l, LineMoves (t.quiet = none ∨ s.rollTimer ≠ none) (s.lines.get l) (t.lines.get l)
  bay : ∀ m, BayMoves (s.bays.get m) (t.bays.get m)
  quiet : t.quiet ≠ none → t.quiet = s.quiet ∧ (s.rollTimer = none → t.rollTimer = none)
  alert : AlertTimed s → AlertTimed t
  staging : StagingBounded s → StagingBounded t
  save : SaveInvalidates s → SaveInvalidates t

section
variable {s t : State}

theorem PortMoves.eventStep (h : PortMoves (s.quiet = none) s t) : EventStep s t where
  line l := (h.line l).mono fun hq => .inl (h.quiet.trans hq)
  bay := h.bay
  quiet _ := ⟨h.quiet, h.timer.trans⟩
  alert := h.alert
  staging hs := hs.of_same (congrArg Stock.staging h.stock)
  save hs := hs.of_stock h.stock

/-- An event that reaches the staging areas and the store alone. -/
theorem EventStep.of_ports (hlines : t.lines = s.lines) (hbays : t.bays = s.bays) (hquiet : t.quiet = s.quiet)
    (htimer : t.rollTimer = s.rollTimer) (halert : t.alert = s.alert) (hhold : t.alertHold = s.alertHold)
    (staging : StagingBounded s → StagingBounded t) (save : SaveInvalidates s → SaveInvalidates t) : EventStep s t where
  line l := by
    rw [hlines]
    exact .refl
  bay m := by
    rw [hbays]
    exact .refl
  quiet _ := ⟨hquiet, htimer.trans⟩
  alert ha := by rwa [AlertTimed, halert, hhold]
  staging := staging
  save := save

end

/-! ## Announcements (R124 to R126) -/

/-- An announcement moves the ports from the state whose roll-call timer is already restarted. -/
theorem announce_portMoves (s : State) :
    PortMoves True { s with rollTimer := some s.globals.rollInterval } (announce s) := by
  by_cases h : s.lines.a.state = .down ∧ s.lines.b.state = .down
  · rw [announce_of_down h]
    exact .refl _
  · rw [announce_of_link h]
    exact .after (offerLanes_portMoves _ trivial _ _ _) (.of_plant rfl)

/-- An announcement is an event where the start quiet does not run, or where the roll-call timer ran. -/
theorem announce_eventStep {s : State} (h : s.quiet = none ∨ s.rollTimer ≠ none) : EventStep s (announce s) where
  line l := ((announce_portMoves s).line l).mono fun _ => h.imp_left (announce_portMoves s).quiet.trans
  bay := (announce_portMoves s).bay
  quiet hq := ⟨(announce_portMoves s).quiet, fun ht => by
    rw [(announce_portMoves s).quiet] at hq
    exact (h.elim hq (absurd ht)).elim⟩
  alert := (announce_portMoves s).alert
  staging hs := hs.of_same (congrArg Stock.staging (announce_portMoves s).stock)
  save hs := hs.of_stock (announce_portMoves s).stock

theorem quietEndEffect_eventStep (s : State) : EventStep s (quietEndEffect s) := by
  unfold quietEndEffect
  split
  · exact (PortMoves.refl s).eventStep
  · have hq : (announce { s with quiet := none }).quiet = none := (announce_portMoves { s with quiet := none }).quiet
    obtain ⟨hline, hbay, -, halert, hstaging, hsave⟩ := announce_eventStep (s := { s with quiet := none }) (.inl rfl)
    exact ⟨hline, hbay, fun h => absurd hq h, halert, hstaging, hsave⟩

theorem rollTimerEffect_eventStep (s : State) : EventStep s (rollTimerEffect s) := by
  unfold rollTimerEffect
  split
  · exact (PortMoves.refl s).eventStep
  · next h => exact announce_eventStep (.inr h)

/-! ## The taking of an apply and the end of a save (R152, R153, R158, R172) -/

section
variable (s : State)

theorem takeApply_staging (m : Master) :
    (takeApply m s).staging = s.staging ∨ (takeApply m s).staging = s.staging.set m [] := by
  unfold takeApply
  dsimp only
  split
  · exact .inl rfl
  · next s' first hc =>
    obtain ⟨o, q, g, gl, bc, k, e⟩ := commitItems_frame hc
    obtain ⟨o', k', e'⟩ := compareAll_frame s'
    rw [e', e]
    exact .inr rfl

theorem takeApply_eventStep (m : Master) : EventStep s (takeApply m s) := by
  have hstaging := takeApply_staging s m
  obtain ⟨o, q, g, gl, bc, k, st, e⟩ := takeApply_frame s m
  have hsave (hs : SaveInvalidates s) : SaveInvalidates (takeApply m s) := by
    rw [e]
    exact hs
  exact .of_ports (by rw [e]) (by rw [e]) (by rw [e]) (by rw [e]) (by rw [e]) (by rw [e])
    (fun hs => hstaging.elim hs.of_same (hs.set m (Nat.zero_le _))) hsave

theorem applyTakenEffect_eventStep : EventStep s (applyTakenEffect s) := by
  unfold applyTakenEffect
  split
  · exact takeApply_eventStep s .m1
  · split
    · exact takeApply_eventStep s .m2
    · exact (PortMoves.refl s).eventStep

theorem saveCompletionEffect_eventStep (verified : Bool) : EventStep s (saveCompletionEffect verified s) := by
  unfold saveCompletionEffect
  split
  · exact (PortMoves.refl s).eventStep
  · next r hr =>
    cases verified with
    | false => exact .of_ports rfl rfl rfl rfl rfl rfl (·.of_same rfl) fun _ => saveInvalidates_of_idle rfl
    | true =>
      cases r.slot <;>
        exact .of_ports rfl rfl rfl rfl rfl rfl (·.of_same rfl) fun _ => saveInvalidates_of_idle rfl

/-! ## The commands of a control link (R148 to R150, R161, R172) -/

variable {s} {m : Master} {x : Args}

/-- What holds before a link command, with any answer on the links, and after its own part, holds after it. -/
theorem takeCommand_keeps {I : State → Prop} {own : List Byte → State} (hs : ∀ st, I (reply m st [] s))
    (h : ∀ bytes, I (own bytes)) : I (takeCommand m x s own) := by
  obtain e | ⟨e, -⟩ | ⟨bytes, -, -, -, e⟩ := takeCommand_cases s m x own
  · exact e ▸ hs .badLength
  · exact e ▸ hs .busy
  · exact e ▸ h bytes

theorem takeFixed_keeps {I : State → Prop} {n : Nat} {own : List Byte → State} (hs : ∀ st, I (reply m st [] s))
    (h : ∀ bytes, I (own bytes)) : I (takeFixed m n x s own) :=
  takeCommand_keeps hs fun bytes => by
    split
    · exact hs .badLength
    · exact h bytes

theorem takeFixed_stock {n : Nat} {own : List Byte → State} (h : ∀ bytes, (own bytes).stock = s.stock) :
    (takeFixed m n x s own).stock = s.stock :=
  takeFixed_keeps (I := fun t => t.stock = s.stock) (fun _ => rfl) h

theorem cutEffect_stock (s : State) (m : Master) (bs : List Byte) : (cutEffect m bs s).stock = s.stock := by
  unfold cutEffect
  split <;> rfl

/-- A staging area with room takes one item more (R148). -/
theorem stageEffect_stagingBounded (h : StagingBounded s) : StagingBounded (stageEffect m x s) :=
  takeCommand_keeps (I := StagingBounded) (fun _ => h) fun bytes => by
    split
    · exact h
    · split
      · exact h
      · next hroom =>
        split
        · exact h
        · refine h.set (its := s.staging.get m ++ [_]) m ?_ rfl
          rw [List.length_append]
          exact Nat.succ_le_of_lt (Nat.lt_of_not_le hroom)

theorem stageEffect_saveInvalidates (h : SaveInvalidates s) : SaveInvalidates (stageEffect m x s) :=
  takeCommand_keeps (I := SaveInvalidates) (fun _ => h) fun bytes => by
    split
    · exact h
    · split
      · exact h
      · split
        · exact h
        · exact h

theorem discardEffect_stagingBounded (h : StagingBounded s) : StagingBounded (discardEffect m x s) :=
  takeFixed_keeps (I := StagingBounded) (fun _ => h) fun bytes => by
    split
    · exact h
    · exact h.set m (Nat.zero_le _) rfl

theorem discardEffect_saveInvalidates (h : SaveInvalidates s) : SaveInvalidates (discardEffect m x s) :=
  takeFixed_keeps (I := SaveInvalidates) (fun _ => h) fun bytes => by split <;> exact h

/-- A save begun marks its set invalid (R172). -/
theorem beginSave_saveInvalidates (s : State) (m : Master) (u : UserSlot) : SaveInvalidates (beginSave m u s) := by
  intro r hr
  cases hr
  cases u <;> exact ⟨rfl, rfl⟩

theorem saveSetEffect_saveInvalidates (h : SaveInvalidates s) : SaveInvalidates (saveSetEffect m x s) :=
  takeFixed_keeps (I := SaveInvalidates) (fun _ => h) fun bytes => by
    dsimp only
    split
    · exact h
    · split
      · exact h
      · split
        · exact h
        · exact beginSave_saveInvalidates s m _

/-- The commands of a link leave a staging area within its size and a set being written invalid; but for three they
reach neither the staging areas nor the store. -/
theorem exec_link_stockSound {c : Instr} {t : State} (hm : c.link = some m) (h : exec c s = .next t) :
    (StagingBounded s → StagingBounded t) ∧ (SaveInvalidates s → SaveInvalidates t) := by
  have kept (e : t.stock = s.stock) : (StagingBounded s → StagingBounded t) ∧ (SaveInvalidates s → SaveInvalidates t) :=
    ⟨(·.of_same (congrArg Stock.staging e)), (·.of_stock e)⟩
  cases c with
  | stage _ x => cases h; exact ⟨stageEffect_stagingBounded, stageEffect_saveInvalidates⟩
  | discardStaging _ x => cases h; exact ⟨discardEffect_stagingBounded, discardEffect_saveInvalidates⟩
  | saveSet n x =>
    cases h
    exact ⟨(·.of_same (congrArg Prod.snd (saveSetEffect_desk s n x))), saveSetEffect_saveInvalidates⟩
  | cutTransaction n bs => cases h; exact kept (cutEffect_stock s n bs)
  | unknownCommand _ code x => cases h; exact kept rfl
  | readOrigin _ x =>
    cases h
    refine kept (takeFixed_stock fun bytes => ?_)
    split
    · rfl
    · split <;> rfl
  | readGroup _ x => cases h; exact kept (takeFixed_stock fun bytes => by split <;> rfl)
  | readPort _ x => cases h; exact kept (takeFixed_stock fun bytes => by split <;> rfl)
  | apply _ x => cases h; exact kept (takeFixed_stock fun bytes => by split <;> rfl)
  | selectStartSet _ x => cases h; exact kept (takeFixed_stock fun bytes => by split <;> rfl)
  | restart _ x => cases h; exact kept (takeFixed_stock fun bytes => by split <;> rfl)
  | identify _ x => cases h; exact kept (takeFixed_stock fun _ => rfl)
  | findOrigin _ x => cases h; exact kept (takeFixed_stock fun _ => rfl)
  | readTime _ x => cases h; exact kept (takeFixed_stock fun _ => rfl)
  | readApplyResult _ x => cases h; exact kept (takeFixed_stock fun _ => rfl)
  | readEvents _ x => cases h; exact kept (takeFixed_stock fun _ => rfl)
  | ackEvents _ x => cases h; exact kept (takeFixed_stock fun _ => rfl)
  | setEventMask _ x => cases h; exact kept (takeFixed_stock fun _ => rfl)
  | readChanges _ x => cases h; exact kept (takeFixed_stock fun _ => rfl)
  | ackRestart _ x => cases h; exact kept (takeFixed_stock fun _ => rfl)
  | _ => cases hm

/-- A command of a link moves no port. -/
theorem exec_link_eventStep {c : Instr} {t : State} (hm : c.link = some m) (h : exec c s = .next t) :
    EventStep s t := by
  obtain ⟨-, -, -, -, hlines, hbays, -, halert, hhold, htimer, -, hquiet⟩ := Beyond.mk.inj (exec_beyond hm h)
  obtain ⟨hstaging, hsave⟩ := exec_link_stockSound hm h
  exact .of_ports hlines hbays hquiet htimer halert hhold hstaging hsave

end

/-! ## Start-up (R174) -/

/-- A part whose runtime state is cleared, but for its start quiet (R174 step 1). -/
structure State.Cleared (u : State) : Prop where
  lines : u.lines = ⟨.reset, .reset⟩
  bays : u.bays = ⟨.reset, .reset⟩
  timer : u.rollTimer = none
  alert : u.alert = .calm
  hold : u.alertHold = none
  staging : u.staging = ⟨[], []⟩
  save : u.save = none

/-- Loading a set puts nothing back that was cleared (R174 step 2). -/
theorem loadStart_cleared (s : State) :
    (loadStart (clearRuntime s)).Cleared ∧ (loadStart (clearRuntime s)).quiet = none := by
  unfold loadStart
  dsimp only
  split
  · exact ⟨⟨rfl, rfl, rfl, rfl, rfl, rfl, rfl⟩, rfl⟩
  · split <;> exact ⟨⟨rfl, rfl, rfl, rfl, rfl, rfl, rfl⟩, rfl⟩

theorem lineUp_other (l : Lane) (s : State) :
    (lineUp l s).lines.get (otherLane l) = s.lines.get (otherLane l) := by
  have probing (p : LinePort) :
      (enterProbing l (s.setLine l p)).lines.get (otherLane l) = s.lines.get (otherLane l) := by
    obtain ⟨o, k, e⟩ := compareAll_frame { s with
      lines := s.lines.set l (p.probing s.globals.probeLimit)
      links := ⟨s.links.one.raise .lanePort, s.links.two.raise .lanePort⟩ }
    rw [enterProbing_setLine, e]
    exact PerLane.get_set_other _ _ _
  by_cases ht : s.globals.settleTime = 0
  · rw [lineUp_of_instant ht]
    exact probing _
  · rw [lineUp_of_settling ht]
    exact PerLane.get_set_other _ _ _

/-- Both PHYs report to line ports that are Down. -/
theorem readPhys_portMoves {offers : Prop} (phys : Phys) {s : State} (h : ∀ l, (s.lines.get l).state = .down) :
    PortMoves offers s (readPhys phys s) := by
  have line (b : Bool) {l : Lane} {s : State} (h : (s.lines.get l).state = .down) :
      PortMoves offers s (if b then lineUp l s else s) := by
    split
    · exact lineUp_portMoves h
    · exact .refl s
  have bay (b : Bool) (m : Master) (s : State) : PortMoves offers s (if b then bayUpEffect m s else s) := by
    split
    · exact bayUpEffect_portMoves s m
    · exact .refl s
  have hb : ((if phys.lineA then lineUp .a s else s).lines.get .b).state = .down := by
    split
    · exact (congrArg LinePort.state (lineUp_other .a s)).trans (h .b)
    · exact h .b
  unfold readPhys
  exact .after (bay _ .m2 _) (.after (bay _ .m1 _) (.after (line _ hb) (line _ (h .a))))

theorem PortMoves.eventStep_trans {s t u : State} (h : PortMoves False s t) (h' : EventStep t u) : EventStep s u where
  line l := Relation.ReflTransGen.trans ((h.line l).mono False.elim) (h.timer ▸ h'.line l)
  bay m := Relation.ReflTransGen.trans (h.bay m) (h'.bay m)
  quiet hq := (h'.quiet hq).imp (·.trans h.quiet) fun ht hs => ht (h.timer.trans hs)
  alert ha := h'.alert (h.alert ha)
  staging hs := h'.staging (hs.of_same (congrArg Stock.staging h.stock))
  save hs := h'.save (hs.of_stock h.stock)

/-- The first announcement follows a cleared state; where the start quiet runs, a cleared state in which it runs already
comes before (R174 step 5). -/
theorem startQuiet_eventStep {s t : State} (hs : s.Cleared) (hq : s.quiet = none) (h : PortMoves False s t) :
    ∃ u, u.Cleared ∧ EventStep u (startQuiet t) := by
  unfold startQuiet
  split
  · exact ⟨s, hs, h.eventStep_trans (announce_eventStep (.inl (h.quiet.trans hq)))⟩
  · have hmoves : PortMoves False { s with quiet := some t.globals.startQuiet }
        { t with quiet := some t.globals.startQuiet } := ⟨h.line, h.bay, rfl, h.timer, h.alert, h.stock⟩
    obtain ⟨hlines, hbays, htimer, halert, hhold, hstaging, hsave⟩ := hs
    exact ⟨{ s with quiet := some t.globals.startQuiet }, ⟨hlines, hbays, htimer, halert, hhold, hstaging, hsave⟩,
      hmoves.eventStep_trans (PortMoves.refl _).eventStep⟩

/-- Start-up is an event after a cleared state. -/
theorem startUp_eventStep (phys : Phys) (s : State) : ∃ u, u.Cleared ∧ EventStep u (startUp phys s) := by
  obtain ⟨⟨hlines, hbays, htimer, halert, hhold, hstaging, hsave⟩, hquiet⟩ := loadStart_cleared s
  unfold startUp
  refine startQuiet_eventStep (s := { raiseBoth .restartSeen (loadStart (clearRuntime s)) with ready := true })
    ⟨hlines, hbays, htimer, halert, hhold, hstaging, hsave⟩ hquiet (readPhys_portMoves phys fun l => ?_)
  show ((loadStart (clearRuntime s)).lines.get l).state = .down
  rw [hlines]
  cases l <;> rfl

/-! ## Every command -/

/-- Every command is an event of the state before it, or of a cleared one. -/
theorem exec_eventStep {c : Instr} {s t : State} (h : exec c s = .next t) :
    ∃ u, (u = s ∨ u.Cleared) ∧ EventStep u t := by
  have own (h : EventStep s t) : ∃ u, (u = s ∨ u.Cleared) ∧ EventStep u t := ⟨s, .inl rfl, h⟩
  have started (p : Phys) (s' : State) : ∃ u, (u = s ∨ u.Cleared) ∧ EventStep u (startUp p s') := by
    obtain ⟨u, hu, hstep⟩ := startUp_eventStep p s'
    exact ⟨u, .inr hu, hstep⟩
  cases hlink : c.link with
  | some m => exact own (exec_link_eventStep hlink h)
  | none =>
    cases c with
    | powerOn p => cases h; exact started p _
    | resetPin p => cases h; exact started p _
    | restartTakesEffect p =>
      cases h
      unfold restartTakesEffect
      split
      · exact started p _
      · exact ⟨s, .inl rfl, (PortMoves.refl s).eventStep⟩
    | startQuietEnd => cases h; exact own (quietEndEffect_eventStep s)
    | rollCallTimerExpiry => cases h; exact own (rollTimerEffect_eventStep s)
    | applyTaken => cases h; exact own (applyTakenEffect_eventStep s)
    | saveCompletion v => cases h; exact own (saveCompletionEffect_eventStep s v)
    | lineFrameReceive l f => cases h; exact own (lineFrameEffect_portMoves s l f).eventStep
    | bayFrameReceive m f => cases h; exact own (bayFrameEffect_portMoves s m f).eventStep
    | bayLinkUp m => cases h; exact own (bayUpEffect_portMoves s m).eventStep
    | bayLinkDown m => cases h; exact own (bayDownEffect_portMoves s m).eventStep
    | lineLinkLoss l => cases h; exact own (lineLossEffect_portMoves s l).eventStep
    | glitch l => cases h; exact own (glitchEffect_portMoves s l).eventStep
    | linkFailExpiry l => cases h; exact own (linkFailEffect_portMoves s l).eventStep
    | lineLinkUp l => cases h; exact own (lineUpEffect_portMoves s l).eventStep
    | settleExpiry l => cases h; exact own (settleEffect_portMoves s l).eventStep
    | probeLimitExpiry l => cases h; exact own (probeLimitEffect_portMoves s l).eventStep
    | lineTransmitStart l => cases h; exact own (lineTransmitEffect_portMoves s l).eventStep
    | lineTransmitDone l => cases h; exact own (lineDoneEffect_portMoves s l).eventStep
    | bayTransmitStart m => cases h; exact own (bayTransmitEffect_portMoves s m).eventStep
    | bayTransmitDone m => cases h; exact own (bayDoneEffect_portMoves s m).eventStep
    | pacingTimerExpiry m => cases h; exact own (pacingEffect_portMoves s m).eventStep
    | pairExpiry i => cases h; exact own (pairExpiryEffect_portMoves s i).eventStep
    | silenceExpiry i => cases h; exact own (silenceExpiryEffect_portMoves s i).eventStep
    | forgetExpiry i => cases h; exact own (forgetExpiryEffect_portMoves s i).eventStep
    | holdExpiry i => cases h; exact own (holdExpiryEffect_portMoves s i).eventStep
    | alertHoldExpiry => cases h; exact own (alertHoldEffect_portMoves s).eventStep
    | secondsTick => cases h; exact own (secondsEffect_portMoves s).eventStep
    | _ => cases hlink

/-- What a cleared state has and an event keeps, a step keeps. -/
theorem step_keeps_of_events {I : State → Prop} (hfree : ∀ s p k, I s → I { s with pending := p, tick := k })
    (hcleared : ∀ u, u.Cleared → I u) (hevent : ∀ {s t}, EventStep s t → I s → I t) {s t : State}
    (hs : step s = .next t) (h : I s) : I t := by
  refine step_preserves hfree (fun c s t h he => ?_) h hs
  obtain ⟨u, rfl | hu, hstep⟩ := exec_eventStep he
  · exact hevent hstep h
  · exact hevent hstep (hcleared u hu)

/-! ## What an event keeps and a cleared state has -/

section
variable {s t u : State}

theorem EventStep.queuesBounded (h : EventStep s t) (hs : QueuesBounded s) : QueuesBounded t := by
  rw [queuesBounded_iff] at hs ⊢
  obtain ⟨hline, hbay⟩ := hs
  exact ⟨fun l => reflTransGen_keeps LineMove.queuesFit (h.line l) (hline l),
    fun m => reflTransGen_keeps BayMove.queuesFit (h.bay m) (hbay m)⟩

theorem EventStep.portsConsistent (h : EventStep s t) (hs : PortsConsistent s) : PortsConsistent t := by
  rw [portsConsistent_iff] at hs ⊢
  obtain ⟨hline, hbay⟩ := hs
  exact ⟨fun l => reflTransGen_keeps LineMove.consistent (h.line l) (hline l),
    fun m => reflTransGen_keeps BayMove.consistent (h.bay m) (hbay m)⟩

/-- While the start quiet goes on running with the roll-call timer stopped, nothing is offered to a lane. -/
theorem EventStep.quietHolds (h : EventStep s t) (hs : QuietHolds s) : QuietHolds t := by
  rw [quietHolds_iff] at hs ⊢
  intro hquiet
  obtain ⟨hsame, htimer⟩ := h.quiet hquiet
  obtain ⟨hstopped, hempty⟩ := hs (hsame ▸ hquiet)
  have hoffers : ¬ (t.quiet = none ∨ s.rollTimer ≠ none) := not_or.2 ⟨hquiet, not_not.2 hstopped⟩
  exact ⟨htimer hstopped, fun l => reflTransGen_keeps (LineMove.queuesEmpty hoffers) (h.line l) (hempty l)⟩

theorem State.Cleared.queuesBounded (h : u.Cleared) : QueuesBounded u := by
  rw [QueuesBounded, h.lines, h.bays]
  exact ⟨⟨Nat.zero_le _, Nat.zero_le _⟩, ⟨Nat.zero_le _, Nat.zero_le _⟩, ⟨Nat.zero_le _, Nat.zero_le _⟩,
    ⟨Nat.zero_le _, Nat.zero_le _⟩⟩

theorem State.Cleared.portsConsistent (h : u.Cleared) : PortsConsistent u := by
  have hline : LinePort.reset.consistent :=
    ⟨fun _ => ⟨rfl, rfl, rfl, rfl, rfl, rfl, rfl⟩, fun _ => rfl, nofun, nofun, Nat.zero_le 3⟩
  have hbay : BayPort.reset.consistent := fun _ => ⟨rfl, rfl, rfl, rfl, rfl⟩
  rw [PortsConsistent, h.lines, h.bays]
  exact ⟨hline, hline, hbay, hbay⟩

theorem State.Cleared.quietHolds (h : u.Cleared) : QuietHolds u := fun _ => by
  rw [h.lines]
  exact ⟨h.timer, rfl, rfl, rfl, rfl⟩

theorem State.Cleared.alertTimed (h : u.Cleared) : AlertTimed u := by
  rw [AlertTimed, h.alert, h.hold]
  exact iff_of_false nofun nofun

theorem State.Cleared.stagingBounded (h : u.Cleared) : StagingBounded u := by
  rw [StagingBounded, h.staging]
  exact ⟨Nat.zero_le _, Nat.zero_le _⟩

end

/-! ## The statements -/

/-- Settles O8: only an offer lengthens a queue, and only one with room. -/
theorem queuesStayWithinTheirSizes : Obligations.QueuesStayWithinTheirSizes := fun _ _ h hs =>
  step_keeps_of_events (fun _ _ _ h => h) (fun _ hu => hu.queuesBounded) EventStep.queuesBounded hs h

/-- Settles O9: each relation is kept by every event and holds of what start-up has cleared. -/
theorem portsAlertStagingAndSaveStaySound : Obligations.PortsAlertStagingAndSaveStaySound := fun _ _ hs =>
  ⟨step_keeps_of_events (fun _ _ _ h => h) (fun _ hu => hu.portsConsistent) EventStep.portsConsistent hs,
    step_keeps_of_events (fun _ _ _ h => h) (fun _ hu => hu.quietHolds) EventStep.quietHolds hs,
    step_keeps_of_events (fun _ _ _ h => h) (fun _ hu => hu.alertTimed) EventStep.alert hs,
    step_keeps_of_events (fun _ _ _ h => h) (fun _ hu => hu.stagingBounded) EventStep.staging hs,
    step_keeps_of_events (fun _ _ _ h => h) (fun _ hu => saveInvalidates_of_idle hu.save) EventStep.save hs⟩

end Sys2Proof.Machine
end

section
/-! SUPPORT. The frame on the wire of a bay port and its pacing (R139 to R141): one equation for each kind of start, end
and expiry. -/

namespace Sys2Proof.Machine

section
variable (p : BayPort) (gap : Nat)

theorem BayPort.endSending_of_idle (h : p.sending = none) : p.endSending = p := by
  rw [BayPort.endSending, h]

theorem BayPort.endSending_of_sending {f : Sending} (h : p.sending = some f) :
    p.endSending = { p with sending := none, cnt := p.cnt.transmitted f.queue } := by
  rw [BayPort.endSending, h]

theorem BayPort.takeNext_of_prot {f : Frame} {fs : List Frame} (h : p.prot = f :: fs) :
    p.takeNext gap = { p with prot := fs, sending := some ⟨.protection, wireOf f.data⟩ } := by
  rw [BayPort.takeNext, h]

/-- A background start starts the pacing timer, unless the gap is 0 (R141). -/
theorem BayPort.takeNext_of_back {f : Frame} {fs : List Frame} (hp : p.prot = []) (hb : p.back = f :: fs)
    (ht : p.pacing = none) : p.takeNext gap = { p with
      back := fs, sending := some ⟨.background, wireOf f.data⟩, pacing := if gap = 0 then none else some gap } := by
  have hgap : (if 1 ≤ gap then some gap else none) = if gap = 0 then none else some gap := by
    by_cases hg : gap = 0
    · rw [if_pos hg, if_neg (by omega)]
    · rw [if_neg hg, if_pos (Nat.one_le_iff_ne_zero.2 hg)]
  simp only [BayPort.takeNext, hp, hb, ht, hgap]
  rfl

theorem BayPort.takeNext_of_waiting (hp : p.prot = []) (h : p.back = [] ∨ p.pacing ≠ none) : p.takeNext gap = p := by
  cases hb : p.back with
  | nil => simp only [BayPort.takeNext, hp, hb]
  | cons f fs =>
    have hrun : p.pacing.isSome = true := Option.isSome_iff_ne_none.2 (h.resolve_left (by simp [hb]))
    simp only [BayPort.takeNext, hp, hb, if_pos hrun]

end

section
variable {m : Master} {s : State}

theorem setBay_get (m : Master) (s : State) : s.setBay m (s.bays.get m) = s := by
  rw [State.setBay, PerMaster.set_get]

theorem setBay_setBay (m : Master) (s : State) (p q : BayPort) : (s.setBay m p).setBay m q = s.setBay m q := by
  simp only [State.setBay, PerMaster.set_set]

theorem bayTransmitEffect_of_free (hup : (s.bays.get m).up = true) (hfree : (s.bays.get m).sending = none) :
    bayTransmitEffect m s = s.setBay m ((s.bays.get m).takeNext (s.bayCfg.get m).gap) := if_pos ⟨hup, hfree⟩

theorem bayTransmitEffect_of_busy (h : ¬ ((s.bays.get m).up = true ∧ (s.bays.get m).sending = none)) :
    bayTransmitEffect m s = s := if_neg h

/-- A start of a port put in place of another. -/
theorem bayTransmitEffect_setBay (s : State) {q : BayPort} (hup : q.up = true) (hfree : q.sending = none) :
    bayTransmitEffect m (s.setBay m q) = s.setBay m (q.takeNext (s.bayCfg.get m).gap) := by
  have hq : (s.setBay m q).bays.get m = q := PerMaster.get_set ..
  rw [bayTransmitEffect_of_free (by rw [hq, hup]) (by rw [hq, hfree]), hq, setBay_setBay]
  rfl

theorem bayDoneEffect_eq (m : Master) (s : State) : bayDoneEffect m s = s.setBay m (s.bays.get m).endSending := rfl

theorem pacingEffect_of_stopped (h : (s.bays.get m).pacing = none) : pacingEffect m s = s := if_pos h

/-- The expiry of a running timer stops it, and with protection empty is a start as well (R139). -/
theorem pacingEffect_of_running (h : (s.bays.get m).pacing ≠ none) : pacingEffect m s =
    if (s.bays.get m).prot = [] then bayTransmitEffect m (s.setBay m { s.bays.get m with pacing := none })
    else s.setBay m { s.bays.get m with pacing := none } := if_neg h

end

/-- Settles O44: which queue a start serves, which count an end raises, and the start that an expiry makes of a waiting
background frame. -/
theorem bayTransmissionIsPaced : Obligations.BayTransmissionIsPaced := by
  intro m s p gap free
  have hstart (h : free) : exec (.bayTransmitStart m) s = .next (s.setBay m (p.takeNext gap)) :=
    congrArg _ (bayTransmitEffect_of_free h.1 h.2)
  have hdone {f : Sending} (h : p.sending = some f) : exec (.bayTransmitDone m) s =
      .next (s.setBay m { p with sending := none, cnt := p.cnt.transmitted f.queue }) :=
    congrArg (fun q => Host.Outcome.next (s.setBay m q)) (p.endSending_of_sending h)
  have hexpiry (ht : p.pacing ≠ none) : exec (.pacingTimerExpiry m) s =
      .next (if p.prot = [] then bayTransmitEffect m (s.setBay m { p with pacing := none })
        else s.setBay m { p with pacing := none }) := congrArg _ (pacingEffect_of_running ht)
  have hbegin (h : free) : bayTransmitEffect m (s.setBay m { p with pacing := none }) =
      s.setBay m (BayPort.takeNext gap { p with pacing := none }) := bayTransmitEffect_setBay s h.1 h.2
  refine ⟨fun f fs h hp => ?_, fun f fs h hp hb ht => ?_, fun h => ?_, fun w h => hdone h, fun w h => hdone h,
    fun h => ?_, fun h => congrArg _ (pacingEffect_of_stopped h), fun f fs ht h hp hb => ?_, fun ht h => ?_⟩
  · rw [hstart h, p.takeNext_of_prot gap hp]
  · rw [hstart h, p.takeNext_of_back gap hp hb ht]
  · by_cases hf : free
    · obtain ⟨hp, hwait⟩ := h.resolve_left (not_not.2 hf)
      rw [hstart hf, p.takeNext_of_waiting gap hp hwait, setBay_get]
    · exact congrArg _ (bayTransmitEffect_of_busy hf)
  · refine congrArg _ ((bayDoneEffect_eq m s).trans ?_)
    rw [p.endSending_of_idle h, setBay_get]
  · rw [hexpiry ht, if_pos hp, hbegin h,
      BayPort.takeNext_of_back { p with pacing := none } gap hp hb rfl]
  · rw [hexpiry ht]
    by_cases hp : p.prot = []
    · rw [if_pos hp]
      by_cases hf : free
      · have hb : p.back = [] := (h.resolve_left (not_not.2 hf)).resolve_left (not_not.2 hp)
        rw [hbegin hf, BayPort.takeNext_of_waiting { p with pacing := none } gap hp (.inl hb)]
      · rw [bayTransmitEffect_of_busy]
        rwa [setBay_bays, PerMaster.get_set]
    · rw [if_neg hp]

end Sys2Proof.Machine
end

section
/-! SUPPORT. Frames without a trailer, or with one that does not match (R5, R8, R13). -/

namespace Sys2Proof.Machine

section
variable {l : Lane} {f : RxFrame} {s : State}

/-- The state in which an untagged frame is handled: a trailer that does not match is counted first (R5). -/
def State.toldMismatch (l : Lane) (data : List Byte) (s : State) : State :=
  if recognise data = .mismatch then s.countLine l fun c => { c with trailerMismatch := c.trailerMismatch + 1 } else s

theorem toldMismatch_frame (l : Lane) (data : List Byte) (s : State) :
    ∃ n, s.toldMismatch l data = { s with lines := n } := by
  unfold State.toldMismatch
  split <;> exact ⟨_, rfl⟩

theorem lineFrameEffect_of_no_tag (hp : (s.lines.get l).state ≠ .down) (hf : frameGood f = true)
    (hno : ∀ t, recognise f.data ≠ .tagged t) :
    lineFrameEffect l f s = untagged l f.data (s.toldMismatch l f.data) := by
  rw [lineFrameEffect, if_neg hp, if_neg (by simp [hf]), State.toldMismatch]
  cases hr : recognise f.data with
  | untagged => rw [if_neg nofun]
  | mismatch => rw [if_pos rfl]
  | tagged t => exact absurd hr (hno t)

end

section
variable {l : Lane} {data : List Byte}

theorem untagged_rollCall (h : destOf data = Config.rollCallGroup) (s : State) :
    untagged l data s = countMalformed l s := if_pos h

theorem untagged_delivered (h : destOf data ≠ Config.rollCallGroup) (s : State) :
    untagged l data s = deliver l (destOf data) ⟨classByTable s (destOf data), data⟩ s := if_neg h

theorem untagged_frame (l : Lane) (data : List Byte) (s : State) :
    ∃ n b k, untagged l data s = { s with lines := n, bays := b, links := k } := by
  by_cases h : destOf data = Config.rollCallGroup
  · rw [untagged_rollCall h]
    exact ⟨_, _, _, rfl⟩
  · rw [untagged_delivered h]
    exact deliver_frame s l _ _

end

/-- Settles O49: the mismatch is counted, then the frame is counted malformed or delivered with all its bytes. -/
theorem untaggedFrameIsOfferedToItsTargets : Obligations.UntaggedFrameIsOfferedToItsTargets := by
  intro l f s p dest cls v hp hf hno
  have hv : s.toldMismatch l f.data = v := rfl
  have hexec : exec (.lineFrameReceive l f) s = .next (untagged l f.data v) := by
    rw [exec_lineFrameReceive, lineFrameEffect_of_no_tag hp hf hno, hv]
  obtain ⟨n, e⟩ := toldMismatch_frame l f.data s
  obtain ⟨n', b, k, e'⟩ := untagged_frame l f.data v
  rw [hv] at e
  have hcls : classByTable v dest = cls := by rw [e]; rfl
  refine ⟨_, hexec, by rw [e', e], by rw [e', e], fun hd => ?_, fun hd => ?_⟩
  · rw [untagged_rollCall hd]
    exact countMalformed_malformedAt l v
  · rw [untagged_delivered hd, ← hcls]
    exact deliver_deliveredAs ..

end Sys2Proof.Machine
end

section
/-! SUPPORT. The alert hold (R143), the seconds (R129), a cut select period (R160) and an unknown command (R14, R161). -/

namespace Sys2Proof.Machine

section
variable {s : State}

theorem tripReport_of_calm (h : s.alert = .calm) : tripReport s =
    raiseBoth .alert { s with alert := .alert, alertHold := some s.globals.alertHold } := if_pos h

theorem tripReport_of_alert (h : s.alert = .alert) : tripReport s =
    { s with alert := .alert, alertHold := some s.globals.alertHold } := if_neg (by simp [h])

theorem alertHoldEffect_of_idle (h : s.alertHold = none) : alertHoldEffect s = s := if_pos h

theorem alertHoldEffect_of_running (h : s.alertHold ≠ none) :
    alertHoldEffect s = raiseBoth .alert { s with alert := .calm, alertHold := none } := if_neg h

theorem cutEffect_of_cut {bs : List Byte} (h : isCut bs = true) (m : Master) : cutEffect m bs s =
    s.setLink m { s.links.get m with framing := .idle, cut := (s.links.get m).cut + 1 } := if_pos h

theorem cutEffect_of_none {bs : List Byte} (h : isCut bs = false) (m : Master) : cutEffect m bs s = s :=
  if_neg (by simp [h])

end

/-- Settles O50, by the equation of each event. -/
theorem alertHoldSecondsCutAndUnknown : Obligations.AlertHoldSecondsCutAndUnknown := by
  intro s told second
  refine ⟨tripReport_of_calm, fun h => ?_, fun h => congrArg _ (alertHoldEffect_of_running h),
    fun h => congrArg _ (alertHoldEffect_of_idle h), rfl, fun m _ h => congrArg _ (cutEffect_of_cut h m),
    fun m _ h => congrArg _ (cutEffect_of_none h m), fun m code x => rfl⟩
  rw [tripReport_of_alert h, ← h]

end Sys2Proof.Machine
end

section
/-! SUPPORT. What stands between the events that chapters 7, 9 and 11 name: the clock, the settings with the delivery
table, and the settings store (R129, R133, R158, R171 to R175). -/

namespace Sys2Proof.Machine

/-! ## The clock, the settings and the store -/

structure Clock where
  tick     : Tick
  seconds  : Count
  restarts : Count

structure Settings where
  globals : Globals
  bayCfg  : PerMaster BaySettings
  groups  : List (Nat × Group)

structure Store where
  set1     : UserSet
  set2     : UserSet
  save     : Option SaveRecord
  startSet : SetNo

/-- What most commands leave alone. -/
structure Standing where
  clock    : Clock
  settings : Settings
  store    : Store

def State.standing (s : State) : Standing :=
  ⟨⟨s.tick, s.seconds, s.restarts⟩, ⟨s.globals, s.bayCfg, s.groups⟩, ⟨s.set1, s.set2, s.save, s.startSet⟩⟩

section
variable {s : State}

theorem ite_standing {t u : State} {p : Prop} [Decidable p] (ht : t.standing = s.standing)
    (hu : u.standing = s.standing) : (if p then t else u).standing = s.standing := by split <;> assumption

/-! ## Frames, ports and timers -/

variable (s)

theorem endEvent_standing (cause : Bool) (before : Level) (i : Nat) :
    (endEvent cause before i s).standing = s.standing := by
  obtain ⟨o, k, e⟩ := endEvent_frame s cause before i
  rw [e]
  rfl

theorem announce_standing : (announce s).standing = s.standing := by
  obtain ⟨n, q, e⟩ := announce_frame s
  rw [e]
  rfl

theorem enterProbing_standing (l : Lane) : (enterProbing l s).standing = s.standing := by
  obtain ⟨n, o, k, e⟩ := enterProbing_frame s l
  rw [e]
  rfl

theorem lineUp_standing (l : Lane) : (lineUp l s).standing = s.standing := by
  obtain ⟨n, o, k, e⟩ := lineUp_frame s l
  rw [e]
  rfl

theorem lineFrameEffect_standing (l : Lane) (f : RxFrame) : (lineFrameEffect l f s).standing = s.standing := by
  obtain ⟨n, b, q, o, a, h, k, e⟩ := lineFrameEffect_frame s l f
  rw [e]
  rfl

theorem bayFrameEffect_standing (m : Master) (f : RxFrame) : (bayFrameEffect m f s).standing = s.standing := by
  obtain ⟨n, b, a, h, k, e⟩ := bayFrameEffect_frame s m f
  rw [e]
  rfl

theorem bayTransmitEffect_standing (m : Master) : (bayTransmitEffect m s).standing = s.standing := ite_standing rfl rfl

theorem pacingEffect_standing (m : Master) : (pacingEffect m s).standing = s.standing :=
  ite_standing rfl (ite_standing (bayTransmitEffect_standing _ m) rfl)

theorem pairExpiryEffect_standing (i : Nat) : (pairExpiryEffect i s).standing = s.standing := by
  unfold pairExpiryEffect
  split
  · rfl
  · split
    · rfl
    · exact endEvent_standing _ _ _ i

theorem silenceExpiryEffect_standing (i : Nat) : (silenceExpiryEffect i s).standing = s.standing := by
  unfold silenceExpiryEffect
  split
  · rfl
  · exact ite_standing rfl (endEvent_standing _ _ _ i)

theorem forgetExpiryEffect_standing (i : Nat) : (forgetExpiryEffect i s).standing = s.standing := by
  unfold forgetExpiryEffect
  split
  · rfl
  · exact ite_standing rfl rfl

theorem holdExpiryEffect_standing (i : Nat) : (holdExpiryEffect i s).standing = s.standing := by
  unfold holdExpiryEffect
  split
  · rfl
  · exact ite_standing rfl (endEvent_standing _ _ _ i)

/-! ## Commands of a link -/

variable {s} {m : Master} {x : Args}

theorem takeFixed_standing {n : Nat} {own : List Byte → State} (h : ∀ bytes, (own bytes).standing = s.standing) :
    (takeFixed m n x s own).standing = s.standing :=
  takeFixed_keeps (I := fun t => t.standing = s.standing) (fun _ => rfl) h

theorem readOriginEffect_standing : (readOriginEffect m x s).standing = s.standing :=
  takeFixed_standing fun bytes => by
    split
    · rfl
    · split <;> rfl

theorem readPortEffect_standing : (readPortEffect m x s).standing = s.standing :=
  takeFixed_standing fun bytes => by split <;> rfl

theorem stageEffect_standing : (stageEffect m x s).standing = s.standing :=
  takeCommand_keeps (I := fun t => t.standing = s.standing) (fun _ => rfl) fun bytes =>
    ite_standing rfl (ite_standing rfl (by split <;> rfl))

end

/-! ## Commands that leave all three alone -/

/-- The events that chapters 7, 9 and 11 name. -/
def movesStanding : Instr → Bool
  | .powerOn _ | .resetPin _ | .restartTakesEffect _ | .secondsTick | .applyTaken | .saveSet _ _ | .saveCompletion _
  | .selectStartSet _ _ => true
  | _ => false

theorem exec_standing {c : Instr} {s t : State} (hc : movesStanding c = false) (h : exec c s = .next t) :
    t.standing = s.standing := by
  cases c with
  | startQuietEnd => cases h; exact ite_standing rfl (announce_standing _)
  | lineFrameReceive l f => cases h; exact lineFrameEffect_standing s l f
  | bayFrameReceive m f => cases h; exact bayFrameEffect_standing s m f
  | bayLinkUp m => cases h; rfl
  | bayLinkDown m => cases h; exact ite_standing rfl rfl
  | lineLinkLoss l => cases h; exact ite_standing rfl (ite_standing rfl rfl)
  | glitch l => cases h; exact ite_standing rfl rfl
  | linkFailExpiry l => cases h; exact ite_standing rfl rfl
  | lineLinkUp l => cases h; exact ite_standing (lineUp_standing s l) rfl
  | settleExpiry l => cases h; exact ite_standing (enterProbing_standing s l) rfl
  | probeLimitExpiry l => cases h; exact ite_standing rfl rfl
  | rollCallTimerExpiry => cases h; exact ite_standing rfl (announce_standing s)
  | lineTransmitStart l => cases h; exact ite_standing rfl rfl
  | lineTransmitDone l => cases h; rfl
  | bayTransmitStart m => cases h; exact bayTransmitEffect_standing s m
  | bayTransmitDone m => cases h; rfl
  | pacingTimerExpiry m => cases h; exact pacingEffect_standing s m
  | pairExpiry i => cases h; exact pairExpiryEffect_standing s i
  | silenceExpiry i => cases h; exact silenceExpiryEffect_standing s i
  | forgetExpiry i => cases h; exact forgetExpiryEffect_standing s i
  | holdExpiry i => cases h; exact holdExpiryEffect_standing s i
  | alertHoldExpiry => cases h; exact ite_standing rfl rfl
  | cutTransaction m bs => cases h; exact ite_standing rfl rfl
  | unknownCommand m code x => cases h; rfl
  | readOrigin m x => cases h; exact readOriginEffect_standing
  | readPort m x => cases h; exact readPortEffect_standing
  | stage m x => cases h; exact stageEffect_standing
  | readGroup m x => cases h; exact takeFixed_standing fun _ => ite_standing rfl rfl
  | discardStaging m x => cases h; exact takeFixed_standing fun _ => ite_standing rfl rfl
  | apply m x => cases h; exact takeFixed_standing fun _ => ite_standing rfl rfl
  | restart m x => cases h; exact takeFixed_standing fun _ => ite_standing rfl rfl
  | identify m x => cases h; exact takeFixed_standing fun _ => rfl
  | findOrigin m x => cases h; exact takeFixed_standing fun _ => rfl
  | readTime m x => cases h; exact takeFixed_standing fun _ => rfl
  | readApplyResult m x => cases h; exact takeFixed_standing fun _ => rfl
  | readEvents m x => cases h; exact takeFixed_standing fun _ => rfl
  | ackEvents m x => cases h; exact takeFixed_standing fun _ => rfl
  | setEventMask m x => cases h; exact takeFixed_standing fun _ => rfl
  | readChanges m x => cases h; exact takeFixed_standing fun _ => rfl
  | ackRestart m x => cases h; exact takeFixed_standing fun _ => rfl
  | _ => cases hc

/-! ## The commands that move one of the three -/

section
variable (s : State)

/-- A save begun invalidates its set and leaves what the set holds (log 18). -/
theorem saveSetEffect_keeps (m : Master) (x : Args) :
    (saveSetEffect m x s).standing.clock = s.standing.clock ∧
    (saveSetEffect m x s).standing.settings = s.standing.settings ∧
    (saveSetEffect m x s).set1.content = s.set1.content ∧ (saveSetEffect m x s).set2.content = s.set2.content :=
  takeFixed_keeps (I := fun t => t.standing.clock = s.standing.clock ∧ t.standing.settings = s.standing.settings ∧
      t.set1.content = s.set1.content ∧ t.set2.content = s.set2.content) (fun _ => ⟨rfl, rfl, rfl, rfl⟩) fun bytes => by
    dsimp only
    split
    · exact ⟨rfl, rfl, rfl, rfl⟩
    · split
      · exact ⟨rfl, rfl, rfl, rfl⟩
      · split
        · exact ⟨rfl, rfl, rfl, rfl⟩
        · next u _ => cases u <;> exact ⟨rfl, rfl, rfl, rfl⟩

theorem selectEffect_standing (m : Master) (x : Args) : (selectEffect m x s).standing =
    { s.standing with store := { s.standing.store with startSet := (selectEffect m x s).startSet } } :=
  takeFixed_keeps (I := fun t => t.standing =
    { s.standing with store := { s.standing.store with startSet := t.startSet } }) (fun _ => rfl) fun bytes => by
    split <;> rfl

theorem saveCompletionEffect_standing (verified : Bool) : (saveCompletionEffect verified s).standing =
    { s.standing with store := (saveCompletionEffect verified s).standing.store } := by
  unfold saveCompletionEffect
  split
  · rfl
  · next r _ =>
    cases verified with
    | false => rfl
    | true => cases r.slot <;> rfl

theorem takeApply_standing (m : Master) : (takeApply m s).standing =
    { s.standing with settings := (takeApply m s).standing.settings } := by
  obtain ⟨o, q, g, gl, bc, k, st, e⟩ := takeApply_frame s m
  rw [e]
  rfl

theorem applyTakenEffect_standing : (applyTakenEffect s).standing =
    { s.standing with settings := (applyTakenEffect s).standing.settings } := by
  unfold applyTakenEffect
  split
  · exact takeApply_standing s .m1
  · split
    · exact takeApply_standing s .m2
    · rfl

/-! ## Start-up (R174, R175) -/

theorem readPhys_standing (phys : Phys) : (readPhys phys s).standing = s.standing := by
  have line (b : Bool) (l : Lane) (s : State) : (if b then lineUp l s else s).standing = s.standing :=
    ite_standing (lineUp_standing s l) rfl
  have bay (b : Bool) (m : Master) (s : State) : (if b then bayUpEffect m s else s).standing = s.standing :=
    ite_standing rfl rfl
  unfold readPhys
  rw [bay, bay, line, line]

theorem startUp_standing (phys : Phys) : (startUp phys s).standing = (loadStart (clearRuntime s)).standing := by
  have quiet (s : State) : (startQuiet s).standing = s.standing := ite_standing (announce_standing s) rfl
  unfold startUp
  rw [quiet, readPhys_standing]
  rfl

theorem loadStart_clock : (loadStart (clearRuntime s)).standing.clock = s.standing.clock := by
  unfold loadStart
  dsimp only
  split
  · rfl
  · split <;> rfl

/-- A restart, armed or not, keeps the tick counter and the seconds (R175). -/
theorem restartTakesEffect_keeps (phys : Phys) :
    (restartTakesEffect phys s).tick = s.tick ∧ (restartTakesEffect phys s).seconds = s.seconds := by
  have started (u : State) : (startUp phys u).standing.clock = u.standing.clock := by
    rw [startUp_standing, loadStart_clock]
  unfold restartTakesEffect
  split
  · obtain ⟨htick, hseconds, -⟩ := Clock.mk.inj (started { s with restarts := s.restarts + 1 })
    exact ⟨htick, hseconds⟩
  · exact ⟨rfl, rfl⟩

end

/-! ## The statement -/

/-- A store that stays keeps what its sets hold, their marks, the save record and the choice, whichever of these are
asked for. -/
theorem store_kept {s t : State} {P Q : Prop} (h : t.standing.store = s.standing.store) :
    t.set1.content = s.set1.content ∧ t.set2.content = s.set2.content ∧
      (P → t.set1 = s.set1 ∧ t.set2 = s.set2 ∧ t.save = s.save ∧ (Q → t.startSet = s.startSet)) := by
  obtain ⟨h1, h2, hsave, hstart⟩ := Store.mk.inj h
  exact ⟨congrArg UserSet.content h1, congrArg UserSet.content h2, fun _ => ⟨h1, h2, hsave, fun _ => hstart⟩⟩

/-- Settles O4: the commands that no chapter names leave all three alone, and each of the others is told by the one it
moves. -/
theorem onlyTheirOwnEventsChangeClockSettingsAndStore :
    Obligations.OnlyTheirOwnEventsChangeClockSettingsAndStore := by
  intro c s t h hpower hpin
  cases hc : movesStanding c with
  | false =>
    obtain ⟨hclock, hsettings, hstore⟩ := Standing.mk.inj (exec_standing hc h)
    obtain ⟨htick, hseconds, hrestarts⟩ := Clock.mk.inj hclock
    exact ⟨htick, fun _ => hseconds, fun _ => ⟨hrestarts, fun _ => Settings.mk.inj hsettings, fun _ =>
      store_kept hstore⟩⟩
  | true =>
    cases c with
    | powerOn p => exact absurd rfl (hpower p)
    | resetPin p => exact absurd rfl (hpin p)
    | restartTakesEffect p =>
      cases h
      obtain ⟨htick, hseconds⟩ := restartTakesEffect_keeps s p
      exact ⟨htick, fun _ => hseconds, fun hn => absurd rfl (hn p)⟩
    | secondsTick =>
      cases h
      exact ⟨rfl, fun hn => absurd rfl hn, fun _ => ⟨rfl, fun _ => ⟨rfl, rfl, rfl⟩, fun _ => store_kept rfl⟩⟩
    | applyTaken =>
      cases h
      obtain ⟨hclock, -, hstore⟩ := Standing.mk.inj (applyTakenEffect_standing s)
      obtain ⟨htick, hseconds, hrestarts⟩ := Clock.mk.inj hclock
      exact ⟨htick, fun _ => hseconds, fun _ => ⟨hrestarts, fun hn => absurd rfl hn, fun _ => store_kept hstore⟩⟩
    | saveSet m x =>
      cases h
      obtain ⟨hclock, hsettings, hcontent⟩ := saveSetEffect_keeps s m x
      obtain ⟨htick, hseconds, hrestarts⟩ := Clock.mk.inj hclock
      exact ⟨htick, fun _ => hseconds, fun _ => ⟨hrestarts, fun _ => Settings.mk.inj hsettings, fun _ =>
        ⟨hcontent.1, hcontent.2, fun hn => absurd rfl (hn m x)⟩⟩⟩
    | saveCompletion v =>
      cases h
      obtain ⟨hclock, hsettings, -⟩ := Standing.mk.inj (saveCompletionEffect_standing s v)
      obtain ⟨htick, hseconds, hrestarts⟩ := Clock.mk.inj hclock
      exact ⟨htick, fun _ => hseconds, fun _ => ⟨hrestarts, fun _ => Settings.mk.inj hsettings, fun hn =>
        absurd rfl (hn v)⟩⟩
    | selectStartSet m x =>
      cases h
      obtain ⟨hclock, hsettings, hstore⟩ := Standing.mk.inj (selectEffect_standing s m x)
      obtain ⟨htick, hseconds, hrestarts⟩ := Clock.mk.inj hclock
      obtain ⟨h1, h2, hsave, -⟩ := Store.mk.inj hstore
      exact ⟨htick, fun _ => hseconds, fun _ => ⟨hrestarts, fun _ => Settings.mk.inj hsettings, fun _ =>
        ⟨congrArg UserSet.content h1, congrArg UserSet.content h2, fun _ =>
          ⟨h1, h2, hsave, fun hn => absurd rfl (hn m x)⟩⟩⟩⟩
    | _ => cases hc

end Sys2Proof.Machine
end

section
/-! SUPPORT. Staging (R148 to R151): what a link command does on a part that is not ready, and one equation for each
answer of STAGE, DISCARD STAGING and APPLY. -/

namespace Sys2Proof.Machine

/-! ## Answers without results, and the order of R161 -/

section
variable {m : Master} {bs : List Byte} {s : State}

theorem exec_stage (m : Master) (x : Args) (s : State) : exec (.stage m x) s = .next (stageEffect m x s) := rfl

theorem exec_discardStaging (m : Master) (x : Args) (s : State) :
    exec (.discardStaging m x) s = .next (discardEffect m x s) := rfl

theorem exec_apply (m : Master) (x : Args) (s : State) : exec (.apply m x) s = .next (applyEffect m x s) := rfl

theorem reply_without_results (m : Master) (st : Status) (s : State) : reply m st [] s =
    s.setLink m { s.links.get m with framing := .answering, answer := some ⟨st, []⟩ } := by
  rw [reply, ite_self]
  rfl

theorem takeCommand_unready (own : List Byte → State) (hl : bs.length ≤ 64) (hr : s.ready = false) :
    takeCommand m (.taken bs) s own = reply m .busy [] s := by
  have hargs : ¬ Config.maxArgs < bs.length := not_lt.2 hl
  rw [takeCommand, if_neg hargs, if_pos hr]

theorem takeCommand_ready (own : List Byte → State) (hl : bs.length ≤ 64) (hr : s.ready = true) :
    takeCommand m (.taken bs) s own = own bs := by
  have hargs : ¬ Config.maxArgs < bs.length := not_lt.2 hl
  rw [takeCommand, if_neg hargs, if_neg (by simp [hr])]

/-! ## STAGE (R148, R149) -/

theorem stageEffect_of_pending (hl : bs.length ≤ 64) (hr : s.ready = true) (hp : s.applyPending.get m = true) :
    stageEffect m (.taken bs) s = reply m .busy [] s := by
  rw [stageEffect, takeCommand_ready _ hl hr, if_pos hp]

theorem stageEffect_of_full (hl : bs.length ≤ 64) (hr : s.ready = true) (hp : s.applyPending.get m = false)
    (hn : 32 ≤ (s.staging.get m).length) : stageEffect m (.taken bs) s = reply m .full [] s := by
  have hfull : Config.maxStaged ≤ (s.staging.get m).length := hn
  rw [stageEffect, takeCommand_ready _ hl hr, if_neg (by simp [hp]), if_pos hfull]

theorem stageEffect_of_refused {st : Status} (hl : bs.length ≤ 64) (hr : s.ready = true)
    (hp : s.applyPending.get m = false) (hn : (s.staging.get m).length < 32) (hform : formCheck bs = .error st) :
    stageEffect m (.taken bs) s = reply m st [] s := by
  have hroom : ¬ Config.maxStaged ≤ (s.staging.get m).length := not_le.2 hn
  rw [stageEffect, takeCommand_ready _ hl hr, if_neg (by simp [hp]), if_neg hroom, hform]

theorem stageEffect_of_admitted {it : Item} (hl : bs.length ≤ 64) (hr : s.ready = true)
    (hp : s.applyPending.get m = false) (hn : (s.staging.get m).length < 32) (hform : formCheck bs = .ok it) :
    stageEffect m (.taken bs) s =
      reply m .ok [] { s with staging := s.staging.set m (s.staging.get m ++ [it]) } := by
  have hroom : ¬ Config.maxStaged ≤ (s.staging.get m).length := not_le.2 hn
  rw [stageEffect, takeCommand_ready _ hl hr, if_neg (by simp [hp]), if_neg hroom, hform]

/-! ## DISCARD STAGING and APPLY (R150, R151) -/

theorem discardEffect_of_ready (hr : s.ready = true) : discardEffect m (.taken []) s =
    if s.applyPending.get m = true then reply m .busy [] s
    else reply m .ok [] { s with staging := s.staging.set m [] } :=
  takeFixed_own s m _ rfl (by decide) hr

theorem applyEffect_of_ready (hr : s.ready = true) : applyEffect m (.taken []) s =
    if s.applyPending.get m = true then reply m .busy [] s
    else reply m .ok [] { s with applyPending := s.applyPending.set m true } :=
  takeFixed_own s m _ rfl (by decide) hr

end

/-- Settles O54: the clauses follow the order of R161, then that of the pending apply, the full area and the form
check. -/
theorem stageDiscardAndApplyAnswer : Obligations.StageDiscardAndApplyAnswer := by
  intro m bs s hl k area ans
  have answered (st : Status) (t : State) (ht : t.links = s.links) :
      Host.Outcome.next (reply m st [] t) = ans st t := by
    rw [reply_without_results, ht]
  simp only [exec_stage, exec_discardStaging, exec_apply]
  refine ⟨fun n => answered .badLength s rfl, fun hr => ?_, fun hr hp => ?_, fun hr hp => ⟨fun hn => ?_,
    fun st hn hform => ?_, fun it hn hform => ?_, ?_, ?_⟩⟩
  · rw [stageEffect, takeCommand_unready _ hl hr]
    exact answered .busy s rfl
  · rw [stageEffect_of_pending hl hr hp, discardEffect_of_ready hr, applyEffect_of_ready hr, if_pos hp, if_pos hp]
    exact ⟨answered .busy s rfl, answered .busy s rfl, answered .busy s rfl⟩
  · rw [stageEffect_of_full hl hr hp hn]
    exact answered .full s rfl
  · rw [stageEffect_of_refused hl hr hp hn hform]
    exact answered st s rfl
  · rw [stageEffect_of_admitted hl hr hp hn hform]
    exact answered .ok _ rfl
  · rw [discardEffect_of_ready hr, if_neg (by simp [hp])]
    exact answered .ok _ rfl
  · rw [applyEffect_of_ready hr, if_neg (by simp [hp])]
    exact answered .ok _ rfl

end Sys2Proof.Machine
end

section
/-! SUPPORT. The STAGE layout (R149, R162): the fields of written bytes, what each kind's form check admits, and that an
item is read back as it was written. -/

namespace Sys2Proof.Machine

/-! ## Fields one after another -/

section
variable {a : List Byte} {off k : Nat}

theorem numAt_append_left (h : off + k ≤ a.length) (b : List Byte) : numAt (a ++ b) off k = numAt a off k := by
  rw [numAt, slice_append_left h, numAt]

theorem numAt_append_right (h : a.length ≤ off) (b : List Byte) (k : Nat) :
    numAt (a ++ b) off k = numAt b (off - a.length) k := by
  rw [numAt, slice_append_right h, numAt]

theorem skewAt_append_right (h : a.length ≤ off) (b : List Byte) : skewAt (a ++ b) off = skewAt b (off - a.length) := by
  rw [skewAt, numAt_append_right h, skewAt]

theorem refAt_append_right (h : a.length ≤ off) (b : List Byte) : refAt (a ++ b) off = refAt b (off - a.length) := by
  have haddr : addrAt (a ++ b) (off + 1) = addrAt b (off - a.length + 1) := by
    rw [addrAt_append_right (by omega), Nat.sub_add_comm h]
  rw [refAt, refAt, numAt_append_right h, haddr]

end

theorem numAt_beBytes (k v : Nat) (bs : List Byte) : numAt (beBytes k v ++ bs) 0 k = v % 256 ^ k := by
  rw [numAt_append_left (by rw [length_beBytes, Nat.zero_add]), numAt, slice_all (length_beBytes k v), beNat_beBytes]

theorem numAt_byteField {n : Nat} (h : n < 256) (bs : List Byte) : numAt (byteField n ++ bs) 0 1 = n :=
  (numAt_beBytes 1 n bs).trans (Nat.mod_eq_of_lt h)

theorem numAt_wordField {n : Nat} (h : n < 65536) (bs : List Byte) : numAt (wordField n ++ bs) 0 2 = n :=
  (numAt_beBytes 2 n bs).trans (Nat.mod_eq_of_lt h)

theorem numAt_byteField_last {n : Nat} (h : n < 256) : numAt (byteField n) 0 1 = n := by
  rw [← List.append_nil (byteField n), numAt_byteField h]

theorem numAt_wordField_last {n : Nat} (h : n < 65536) : numAt (wordField n) 0 2 = n := by
  rw [← List.append_nil (wordField n), numAt_wordField h]

theorem numAt_flagField (b : Bool) (bs : List Byte) : numAt (flagField b ++ bs) 0 1 = if b then 1 else 0 :=
  numAt_byteField (by cases b <;> decide) bs

/-- A value in sixteenths that fits three bytes is read back. -/
theorem skewAt_skewField {v : Int} (hlo : -8388608 ≤ v) (hhi : v < 8388608) (bs : List Byte) :
    skewAt (skewField v ++ bs) 0 = v := by
  have hread : numAt (skewField v ++ bs) 0 3 = (BitVec.ofInt 24 v).toNat :=
    (numAt_beBytes 3 _ bs).trans (Nat.mod_eq_of_lt (BitVec.ofInt 24 v).isLt)
  rw [skewAt, hread, BitVec.ofNat_toNat, BitVec.setWidth_eq, BitVec.toInt_ofInt]
  exact Int.bmod_eq_of_le (by omega) (by omega)

theorem numAt_head (b : Byte) (bs : List Byte) : numAt (b :: bs) 0 1 = b.toNat := by
  rw [numAt, slice, List.drop_zero, List.take_succ_cons, List.take_zero, beNat_singleton]

/-! ## Codes -/

theorem modeOfCode_position (x : BaselineMode) : modeOfCode x.position = some x := by cases x <;> rfl

theorem groupClassOfCode_position (x : GroupClass) : groupClassOfCode x.position = some x := by cases x <;> rfl

theorem flagOfCode_flag (b : Bool) : flagOfCode (if b then 1 else 0) = some b := by cases b <;> rfl

theorem globalOfNumber_number (g : GlobalSetting) : globalOfNumber g.number = some g := by cases g <;> rfl

theorem baySettingOfNumber_number (b : BaySetting) : baySettingOfNumber b.number = some b := by cases b <;> rfl

theorem modeOfCode_eq_none_iff : ∀ n, modeOfCode n = none ↔ 3 < n
  | 0 | 1 | 2 | 3 => by decide
  | n + 4 => iff_of_true rfl (by omega)

theorem groupClassOfCode_eq_none_iff : ∀ n, groupClassOfCode n = none ↔ 2 < n
  | 0 | 1 | 2 => by decide
  | n + 3 => iff_of_true rfl (by omega)

theorem flagOfCode_eq_none_iff : ∀ n, flagOfCode n = none ↔ 1 < n
  | 0 | 1 => by decide
  | n + 2 => iff_of_true rfl (by omega)

theorem flagOfCode_eq_true_iff : ∀ n, flagOfCode n = some true ↔ n = 1
  | 0 | 1 => by decide
  | n + 2 => iff_of_false nofun (by omega)

theorem baySettingOfNumber_eq_none_iff : ∀ n, baySettingOfNumber n = none ↔ 2 < n
  | 0 | 1 | 2 => by decide
  | n + 3 => iff_of_true rfl (by omega)

theorem number_of_globalOfNumber {n : Nat} {g : GlobalSetting} (h : globalOfNumber n = some g) : g.number = n := by
  unfold globalOfNumber at h
  split at h <;> cases h <;> rfl

theorem number_of_baySettingOfNumber {n : Nat} {b : BaySetting} (h : baySettingOfNumber n = some b) : b.number = n := by
  unfold baySettingOfNumber at h
  split at h <;> cases h <;> rfl

theorem globalOfNumber_eq_none_iff (n : Nat) : globalOfNumber n = none ↔ 21 < n := by
  constructor
  · intro h
    have hnamed : ∀ k < 22, globalOfNumber k ≠ none := by decide
    exact not_le.1 fun hn => hnamed n (by omega) h
  · intro h
    obtain ⟨k, rfl⟩ := Nat.exists_eq_add_of_le' h
    rfl

/-- The settings that hold codes, by number: flags and the band to 1, the mode to 3. -/
theorem global_codeAdmitted_iff (g : GlobalSetting) (v : Nat) : codeAdmitted (globalMaxCode g) v = false ↔
    (g.number ∈ [2, 10, 11, 15] ∧ 1 < v) ∨ (g.number = 3 ∧ 3 < v) := by
  cases g <;> simp [codeAdmitted, globalMaxCode, GlobalSetting.number]

theorem bay_codeAdmitted_iff (b : BaySetting) (v : Nat) :
    codeAdmitted (bayMaxCode b) v = false ↔ b.number ≤ 1 ∧ 1 < v := by
  cases b <;> simp [codeAdmitted, bayMaxCode, BaySetting.number]

/-! ## The item of each kind -/

section
variable {bs : List Byte}

theorem itemOf_originPut (h : numAt bs 0 1 = 0) : itemOf bs =
    if groupBit (addrAt bs 1) then none else (putFieldsOf bs).map (.originPut (addrAt bs 1)) := by
  rw [itemOf, h]
  rfl

theorem itemOf_originDelete (h : numAt bs 0 1 = 1) :
    itemOf bs = if groupBit (addrAt bs 1) then none else some (.originDelete (addrAt bs 1)) := by
  rw [itemOf, h]
  rfl

theorem itemOf_originShare (h : numAt bs 0 1 = 2) :
    itemOf bs = if groupBit (addrAt bs 1) then none else some (.originShare (addrAt bs 1)) := by
  rw [itemOf, h]
  rfl

theorem itemOf_groupJoin (h : numAt bs 0 1 = 3) : itemOf bs =
    if isGroup (addrAt bs 1) then (groupClassOfCode (numAt bs 7 1)).map (.groupJoin (addrAt bs 1)) else none := by
  rw [itemOf, h]
  rfl

theorem itemOf_groupLeave (h : numAt bs 0 1 = 4) :
    itemOf bs = if isGroup (addrAt bs 1) then some (.groupLeave (addrAt bs 1)) else none := by
  rw [itemOf, h]
  rfl

theorem itemOf_unknownGlobal (h : numAt bs 0 1 = 5) (hg : globalOfNumber (numAt bs 1 1) = none) : itemOf bs = none := by
  rw [itemOf, h, hg]
  rfl

theorem itemOf_globalPut {g : GlobalSetting} (h : numAt bs 0 1 = 5) (hg : globalOfNumber (numAt bs 1 1) = some g) :
    itemOf bs = if g = .profileThresholds then some (.globalPut g (numAt bs 2 2) (numAt bs 4 2) (numAt bs 6 2))
      else if codeAdmitted (globalMaxCode g) (numAt bs 6 2) then some (.globalPut g 0 0 (numAt bs 6 2)) else none := by
  rw [itemOf, h, hg]
  cases g <;> rfl

theorem itemOf_unknownBay (h : numAt bs 0 1 = 6) (hb : baySettingOfNumber (numAt bs 1 1) = none) :
    itemOf bs = none := by
  rw [itemOf, h, hb]
  rfl

theorem itemOf_bayPut {b : BaySetting} (h : numAt bs 0 1 = 6) (hb : baySettingOfNumber (numAt bs 1 1) = some b) :
    itemOf bs = if codeAdmitted (bayMaxCode b) (numAt bs 2 2) then some (.bayPut b (numAt bs 2 2)) else none := by
  rw [itemOf, h, hb]
  rfl

/-! ## What each kind refuses (R149) -/

theorem refAt_eq_none_iff (off : Nat) : refAt bs off = none ↔
    1 < numAt bs off 1 ∨ (numAt bs off 1 = 1 ∧ groupBit (addrAt bs (off + 1)) = true) := by
  rw [← flagOfCode_eq_none_iff, ← flagOfCode_eq_true_iff, refAt]
  cases flagOfCode (numAt bs off 1) with
  | none => simp
  | some present => cases present <;> simp

theorem putFieldsOf_eq_none_iff : putFieldsOf bs = none ↔
    modeOfCode (numAt bs 7 1) = none ∨ flagOfCode (numAt bs 23 1) = none ∨ flagOfCode (numAt bs 24 1) = none ∨
      refAt bs 26 = none ∨ flagOfCode (numAt bs 34 1) = none ∨ flagOfCode (numAt bs 36 1) = none := by
  unfold putFieldsOf
  split
  · next hmode hhi hlo href hsuppress hreseed => simp [hmode, hhi, hlo, href, hsuppress, hreseed]
  · next hnone =>
    refine iff_of_true rfl (by_contra fun h => ?_)
    simp only [not_or, ← Option.isSome_iff_ne_none, Option.isSome_iff_exists] at h
    obtain ⟨⟨mode, hmode⟩, ⟨hi, hhi⟩, ⟨lo, hlo⟩, ⟨ref, href⟩, ⟨suppress, hsuppress⟩, ⟨reseed, hreseed⟩⟩ := h
    exact hnone mode hi lo ref suppress reseed hmode hhi hlo href hsuppress hreseed

/-- The codes and the reference link of an origin put that R149 refuses. -/
theorem putFieldsOf_refused_iff : putFieldsOf bs = none ↔
    3 < numAt bs 7 1 ∨ (∃ i ∈ [23, 24, 26, 34, 36], 1 < numAt bs i 1) ∨
      (numAt bs 26 1 = 1 ∧ groupBit (addrAt bs 27) = true) := by
  rw [putFieldsOf_eq_none_iff]
  simp only [modeOfCode_eq_none_iff, flagOfCode_eq_none_iff, refAt_eq_none_iff, List.mem_cons, List.not_mem_nil,
    or_false, exists_eq_or_imp, exists_eq_left]
  grind

theorem itemOf_eq_none_iff (hkind : numAt bs 0 1 ≤ 6) : itemOf bs = none ↔ FormIndexBad bs := by
  obtain h | h | h | h | h | h | h : numAt bs 0 1 = 0 ∨ numAt bs 0 1 = 1 ∨ numAt bs 0 1 = 2 ∨ numAt bs 0 1 = 3 ∨
      numAt bs 0 1 = 4 ∨ numAt bs 0 1 = 5 ∨ numAt bs 0 1 = 6 := by omega
  · rw [itemOf_originPut h]
    have hput := putFieldsOf_refused_iff (bs := bs)
    cases hg : groupBit (addrAt bs 1) with
    | true => simp [FormIndexBad, h, hg]
    | false => simpa [FormIndexBad, h, hg] using hput
  · rw [itemOf_originDelete h]
    simp [FormIndexBad, h]
  · rw [itemOf_originShare h]
    simp [FormIndexBad, h]
  · rw [itemOf_groupJoin h]
    have hclass := groupClassOfCode_eq_none_iff (numAt bs 7 1)
    cases hg : isGroup (addrAt bs 1) <;> simp [FormIndexBad, h, hg, hclass]
  · rw [itemOf_groupLeave h]
    simp [FormIndexBad, h]
  · have hunknown := globalOfNumber_eq_none_iff (numAt bs 1 1)
    cases hg : globalOfNumber (numAt bs 1 1) with
    | none => simp [FormIndexBad, h, itemOf_unknownGlobal h hg, hunknown.1 hg]
    | some g =>
      rw [itemOf_globalPut h hg]
      have hcode := global_codeAdmitted_iff g (numAt bs 6 2)
      have hnamed : ¬ 21 < numAt bs 1 1 := fun hn => Option.some_ne_none g (hg.symm.trans (hunknown.2 hn))
      rw [number_of_globalOfNumber hg] at hcode
      split
      · next hthresholds =>
        subst hthresholds
        simpa [FormIndexBad, h, hnamed, codeAdmitted, globalMaxCode] using hcode
      · simpa [FormIndexBad, h, hnamed] using hcode
  · have hunknown := baySettingOfNumber_eq_none_iff (numAt bs 1 1)
    cases hb : baySettingOfNumber (numAt bs 1 1) with
    | none => simp [FormIndexBad, h, itemOf_unknownBay h hb, hunknown.1 hb]
    | some b =>
      rw [itemOf_bayPut h hb]
      have hcode := bay_codeAdmitted_iff b (numAt bs 2 2)
      have hnamed : ¬ 2 < numAt bs 1 1 := fun hn => Option.some_ne_none b (hb.symm.trans (hunknown.2 hn))
      rw [number_of_baySettingOfNumber hb] at hcode
      simpa [FormIndexBad, h, hnamed] using hcode

/-! ## The form check -/

theorem itemLength_eq : ∀ n, itemLength n = [37, 7, 7, 8, 7, 8, 4][n]?
  | 0 | 1 | 2 | 3 | 4 | 5 | 6 => rfl
  | _ + 7 => rfl

theorem kind_of_formLengthRight (h : FormLengthRight bs) : numAt bs 0 1 ≤ 6 := by
  obtain ⟨hlt, -⟩ := List.getElem?_eq_some_iff.1 h
  exact Nat.le_of_lt_succ hlt

theorem not_formLengthRight_nil : ¬ FormLengthRight [] := by
  unfold FormLengthRight
  decide

theorem formLengthRight_cons (kind : Byte) (rest : List Byte) :
    FormLengthRight (kind :: rest) ↔ itemLength kind.toNat = some (kind :: rest).length := by
  rw [FormLengthRight, numAt_head, itemLength_eq]

theorem formCheck_of_wrong_length (h : ¬ FormLengthRight bs) : formCheck bs = .error .badLength := by
  cases bs with
  | nil => rfl
  | cons kind rest =>
    rw [formLengthRight_cons] at h
    unfold formCheck
    dsimp only
    split
    · rfl
    · next n hn =>
      rw [hn] at h
      exact if_pos fun e => h (congrArg some e.symm)

theorem formCheck_of_refused (h : FormLengthRight bs) (hi : itemOf bs = none) : formCheck bs = .error .badIndex := by
  cases bs with
  | nil => exact absurd h not_formLengthRight_nil
  | cons kind rest =>
    rw [formLengthRight_cons] at h
    simp only [formCheck, h, hi, ne_eq, not_true_eq_false, if_false]

theorem formCheck_of_item {it : Item} (h : FormLengthRight bs) (hi : itemOf bs = some it) : formCheck bs = .ok it := by
  cases bs with
  | nil => exact absurd h not_formLengthRight_nil
  | cons kind rest =>
    rw [formLengthRight_cons] at h
    simp only [formCheck, h, hi, ne_eq, not_true_eq_false, if_false]

/-- The three answers of the form check. -/
theorem formCheck_cases (bs : List Byte) :
    (¬ FormLengthRight bs ∧ formCheck bs = .error .badLength) ∨
    (FormLengthRight bs ∧ FormIndexBad bs ∧ formCheck bs = .error .badIndex) ∨
    ∃ it, FormLengthRight bs ∧ ¬ FormIndexBad bs ∧ formCheck bs = .ok it := by
  by_cases hl : FormLengthRight bs
  · have hbad := itemOf_eq_none_iff (kind_of_formLengthRight hl)
    cases hi : itemOf bs with
    | none => exact .inr (.inl ⟨hl, hbad.1 hi, formCheck_of_refused hl hi⟩)
    | some it =>
      exact .inr (.inr ⟨it, hl, fun h => Option.some_ne_none it (hi.symm.trans (hbad.2 h)), formCheck_of_item hl hi⟩)
  · exact .inl ⟨hl, formCheck_of_wrong_length hl⟩

end

/-! ## Written items are read back -/

/-- The argument bytes of an origin put after its address. -/
def PutFields.bytes (f : PutFields) : List Byte :=
  byteField f.mode.position ++ (skewField f.manual ++ (byteField f.k ++ (byteField f.j ++ (byteField f.m ++
    (wordField f.t1 ++ (wordField f.t2 ++ (wordField f.t3 ++ (byteField f.c ++ (wordField f.spike ++ (flagField f.hi ++
      (flagField f.lo ++ (byteField f.hold ++ (optField 6 addrBytes f.ref ++ (byteField f.weight ++
        (flagField f.suppress ++ (byteField f.silence ++ flagField f.reseed))))))))))))))))

theorem originPut_bytes (a : Addr) (f : PutFields) :
    (Item.originPut a f).bytes = byteField 0 ++ (addrBytes a ++ f.bytes) := by
  unfold Item.bytes PutFields.bytes
  dsimp only
  simp only [List.append_assoc]

theorem length_optAddr (ref : Option Addr) : (optField 6 addrBytes ref).length = 7 :=
  length_optField length_addrBytes ref

theorem refAt_optAddr {ref : Option Addr} (h : ∀ a, ref = some a → groupBit a = false) (bs : List Byte) :
    refAt (optField 6 addrBytes ref ++ bs) 0 = some ref := by
  cases ref with
  | none =>
    have hread : numAt (optField 6 addrBytes none ++ bs) 0 1 = 0 := numAt_byteField (by decide) _
    rw [refAt, hread]
    rfl
  | some a =>
    have hread : numAt (optField 6 addrBytes (some a) ++ bs) 0 1 = 1 := by
      rw [optField, List.append_assoc]
      exact numAt_byteField (by decide) _
    have haddr : addrAt (optField 6 addrBytes (some a) ++ bs) (0 + 1) = a := by
      rw [optField, List.append_assoc]
      exact addrAt_addrBytes_append a bs
    rw [refAt, hread, haddr]
    exact if_neg (by rw [h a rfl]; decide)

theorem putFieldsOf_bytes (a : Addr) {f : PutFields} (h : f.fits) :
    putFieldsOf (Item.originPut a f).bytes = some f := by
  obtain ⟨hlo, hhi, hk, hj, hm, h1, h2, h3, hc, hspike, hhold, hweight, hsilence, href⟩ := h
  have hmode : f.mode.position < 256 := by cases f.mode <;> decide
  have hreseed : numAt (flagField f.reseed) 0 1 = if f.reseed then 1 else 0 :=
    numAt_byteField_last (by cases f.reseed <;> decide)
  simp [originPut_bytes, PutFields.bytes, putFieldsOf, numAt_append_right, skewAt_append_right, refAt_append_right,
    length_optAddr, numAt_byteField, numAt_wordField, numAt_flagField, skewAt_skewField, refAt_optAddr href,
    flagOfCode_flag, modeOfCode_position, hlo, hhi, hk, hj, hm, h1, h2, h3, hc, hspike, hhold, hweight, hsilence, hmode,
    hreseed]

theorem formLengthRight_byteField {n : Nat} (hn : n < 256) (bs : List Byte) :
    FormLengthRight (byteField n ++ bs) ↔ itemLength n = some (bs.length + 1) := by
  rw [FormLengthRight, numAt_byteField hn, itemLength_eq, List.length_append, length_byteField, Nat.add_comm]

/-- The kind of an item whose argument bytes go on with an address, and that address. -/
theorem kind_and_addr {n : Nat} (hn : n < 256) (a : Addr) (bs : List Byte) :
    numAt (byteField n ++ (addrBytes a ++ bs)) 0 1 = n ∧ addrAt (byteField n ++ (addrBytes a ++ bs)) 1 = a :=
  ⟨numAt_byteField hn _, addrAt_addrBytes_append a bs⟩

theorem formCheck_originPut {a : Addr} {f : PutFields} (ha : groupBit a = false) (hf : f.fits) :
    formCheck (Item.originPut a f).bytes = .ok (.originPut a f) := by
  have hput := putFieldsOf_bytes a hf
  rw [originPut_bytes] at hput ⊢
  obtain ⟨hkind, haddr⟩ := kind_and_addr (n := 0) (by decide) a f.bytes
  refine formCheck_of_item ((formLengthRight_byteField (by decide) _).2 ?_) ?_
  · simp [PutFields.bytes, length_optAddr, itemLength]
  · rw [itemOf_originPut hkind, haddr, if_neg (by simp [ha]), hput]
    rfl

theorem formCheck_originDelete {a : Addr} (ha : groupBit a = false) :
    formCheck (Item.originDelete a).bytes = .ok (.originDelete a) := by
  obtain ⟨hkind, haddr⟩ := kind_and_addr (n := 1) (by decide) a []
  rw [List.append_nil] at hkind haddr
  refine formCheck_of_item ((formLengthRight_byteField (by decide) _).2 (by simp [itemLength])) ?_
  exact (itemOf_originDelete hkind).trans (by rw [haddr, if_neg (by simp [ha])])

theorem formCheck_originShare {a : Addr} (ha : groupBit a = false) :
    formCheck (Item.originShare a).bytes = .ok (.originShare a) := by
  obtain ⟨hkind, haddr⟩ := kind_and_addr (n := 2) (by decide) a []
  rw [List.append_nil] at hkind haddr
  refine formCheck_of_item ((formLengthRight_byteField (by decide) _).2 (by simp [itemLength])) ?_
  exact (itemOf_originShare hkind).trans (by rw [haddr, if_neg (by simp [ha])])

theorem formCheck_groupJoin {a : Addr} (ha : isGroup a = true) (cls : GroupClass) :
    formCheck (Item.groupJoin a cls).bytes = .ok (.groupJoin a cls) := by
  have hbytes : (Item.groupJoin a cls).bytes = byteField 3 ++ (addrBytes a ++ byteField cls.position) :=
    List.append_assoc ..
  have hpos : cls.position < 256 := by cases cls <;> decide
  have hcode : numAt (byteField 3 ++ (addrBytes a ++ byteField cls.position)) 7 1 = cls.position := by
    simp [numAt_append_right, numAt_byteField_last hpos]
  obtain ⟨hkind, haddr⟩ := kind_and_addr (n := 3) (by decide) a (byteField cls.position)
  rw [hbytes]
  refine formCheck_of_item ((formLengthRight_byteField (by decide) _).2 (by simp [itemLength])) ?_
  rw [itemOf_groupJoin hkind, haddr, if_pos ha, hcode, groupClassOfCode_position]
  rfl

theorem formCheck_groupLeave {a : Addr} (ha : isGroup a = true) :
    formCheck (Item.groupLeave a).bytes = .ok (.groupLeave a) := by
  obtain ⟨hkind, haddr⟩ := kind_and_addr (n := 4) (by decide) a []
  rw [List.append_nil] at hkind haddr
  refine formCheck_of_item ((formLengthRight_byteField (by decide) _).2 (by simp [itemLength])) ?_
  exact (itemOf_groupLeave hkind).trans (by rw [haddr, if_pos ha])

theorem formCheck_globalPut {g : GlobalSetting} {v1 v2 v3 : Nat} (h : (Item.globalPut g v1 v2 v3).fits) :
    formCheck (Item.globalPut g v1 v2 v3).bytes = .ok (.globalPut g v1 v2 v3) := by
  obtain ⟨h1, h2, h3, hzero, hcode⟩ := h
  have hnumber : g.number < 256 := by cases g <;> decide
  have hbytes : (Item.globalPut g v1 v2 v3).bytes =
      byteField 5 ++ (byteField g.number ++ (wordField v1 ++ (wordField v2 ++ wordField v3))) := by
    unfold Item.bytes
    simp only [List.append_assoc]
  rw [hbytes]
  have hread : globalOfNumber (numAt (byteField 5 ++ (byteField g.number ++ (wordField v1 ++ (wordField v2 ++
      wordField v3)))) 1 1) = some g :=
    (congrArg globalOfNumber (numAt_byteField hnumber _)).trans (globalOfNumber_number g)
  refine formCheck_of_item ((formLengthRight_byteField (by decide) _).2 (by simp [itemLength])) ?_
  rw [itemOf_globalPut (numAt_byteField (by decide) _) hread]
  simp only [numAt_append_right, numAt_wordField, numAt_wordField_last, length_byteField, length_wordField, h1, h2, h3,
    Nat.reduceSub, Nat.reduceLeDiff, hcode, if_true]
  split
  · rfl
  · next hg =>
    obtain ⟨rfl, rfl⟩ := hzero hg
    rfl

theorem formCheck_bayPut {b : BaySetting} {v : Nat} (h : (Item.bayPut b v).fits) :
    formCheck (Item.bayPut b v).bytes = .ok (.bayPut b v) := by
  obtain ⟨hv, hcode⟩ := h
  have hnumber : b.number < 256 := by cases b <;> decide
  have hbytes : (Item.bayPut b v).bytes = byteField 6 ++ (byteField b.number ++ wordField v) := List.append_assoc ..
  have hread : baySettingOfNumber (numAt (byteField 6 ++ (byteField b.number ++ wordField v)) 1 1) = some b :=
    (congrArg baySettingOfNumber (numAt_byteField hnumber _)).trans (baySettingOfNumber_number b)
  have hvalue : numAt (byteField 6 ++ (byteField b.number ++ wordField v)) 2 2 = v := numAt_wordField_last hv
  rw [hbytes]
  refine formCheck_of_item ((formLengthRight_byteField (by decide) _).2 (by simp [itemLength])) ?_
  rw [itemOf_bayPut (numAt_byteField (by decide) _) hread, hvalue, if_pos hcode]

theorem formCheck_bytes {it : Item} (h : it.fits) : formCheck it.bytes = .ok it := by
  cases it with
  | originPut a f =>
    obtain ⟨ha, hf⟩ := h
    exact formCheck_originPut ha hf
  | originDelete a => exact formCheck_originDelete h
  | originShare a => exact formCheck_originShare h
  | groupJoin a cls => exact formCheck_groupJoin h cls
  | groupLeave a => exact formCheck_groupLeave h
  | globalPut g v1 v2 v3 => exact formCheck_globalPut h
  | bayPut b v => exact formCheck_bayPut h

/-- Settles O55: written items are read back kind by kind, and the form check has the three answers of
`formCheck_cases`. -/
theorem stagedItemsAreReadAsWritten : Obligations.StagedItemsAreReadAsWritten := by
  refine ⟨⟨rfl, rfl⟩, fun it h => formCheck_bytes h, fun bs it h => ⟨formCheck_fits h, ?_⟩, fun bs => ?_⟩
  · obtain ⟨-, e⟩ | ⟨-, -, e⟩ | ⟨-, hl, -, -⟩ := formCheck_cases bs
    · cases h.symm.trans e
    · cases h.symm.trans e
    · cases bs with
      | nil => exact absurd hl not_formLengthRight_nil
      | cons kind rest => exact ⟨kind, rest, rfl, (formLengthRight_cons kind rest).1 hl⟩
  · obtain ⟨hl, e⟩ | ⟨hl, hi, e⟩ | ⟨it, hl, hi, e⟩ := formCheck_cases bs
    · simp [e, hl]
    · simp [e, hl, hi]
    · simp [e, hl, hi]

end Sys2Proof.Machine
end

section
/-! SUPPORT. Clamping (R157): what the nearer limit of a range is, and one equation for each kind of setting put (R133,
R153, R158, R162). -/

namespace Sys2Proof.Machine

/-! ## The nearer limit -/

theorem limited_clampNat {lo hi : Nat} (h : lo ≤ hi) (v : Nat) : Limited lo hi v (clampNat lo hi v) := by
  unfold Limited clampNat
  omega

theorem clampMag_limited (v : Int) :
    (-524272 ≤ v → v ≤ 524272 → clampMag Config.maxSkew v = v) ∧ (v < -524272 → clampMag Config.maxSkew v = -524272) ∧
      (524272 < v → clampMag Config.maxSkew v = 524272) := by
  unfold clampMag Config.maxSkew
  omega

/-- Of the four link-fail times none is nearer, and of two equally near the larger is taken. -/
theorem nearestLinkFail_nearest (v x : Nat) (hx : x = 0 ∨ x = 5 ∨ x = 20 ∨ x = 100) :
    ((nearestLinkFail v : Int) - v).natAbs ≤ ((x : Int) - v).natAbs ∧
      (((nearestLinkFail v : Int) - v).natAbs = ((x : Int) - v).natAbs → x ≤ nearestLinkFail v) := by
  unfold nearestLinkFail
  split
  · omega
  · split
    · omega
    · split <;> omega

theorem nearestLinkFail_eq_iff (v : Nat) : nearestLinkFail v = v ↔ v = 0 ∨ v = 5 ∨ v = 20 ∨ v = 100 := by
  refine ⟨fun h => h ▸ nearestLinkFail_mem v, ?_⟩
  rintro (rfl | rfl | rfl | rfl) <;> rfl

/-! ## Lane states (R75) -/

theorem laneStateOf_cases (limit : Nat) (miss : PerLane Nat) :
    (miss.a < limit → miss.b < limit → laneStateOf limit miss = .paired) ∧
    (miss.a < limit → limit ≤ miss.b → laneStateOf limit miss = .loneA) ∧
    (limit ≤ miss.a → miss.b < limit → laneStateOf limit miss = .loneB) ∧
    (limit ≤ miss.a → limit ≤ miss.b → laneStateOf limit miss = .fragmented) := by
  unfold laneStateOf
  refine ⟨fun ha hb => ?_, fun ha hb => ?_, fun ha hb => ?_, fun ha hb => ?_⟩
  · rw [if_pos ha, if_pos hb]
  · rw [if_pos ha, if_neg (not_lt.2 hb)]
  · rw [if_neg (not_lt.2 ha), if_pos hb]
  · rw [if_neg (not_lt.2 ha), if_neg (not_lt.2 hb)]

/-! ## Puts of a global setting -/

section
variable {m : Master} {g : GlobalSetting} {v1 v2 v : Nat} {s : State}

theorem putGlobal_ok (horder : ¬ (g = .profileThresholds ∧ thresholdsRise v1 v2 v = false)) (hl : g ≠ .lossLimit) :
    putGlobal g v1 v2 v s = .ok { s with globals := s.globals.put v1 v2 v g } := by
  rw [putGlobal, if_neg horder]
  exact congrArg Except.ok (if_neg hl)

/-- Only the thresholds use the first two numbers. -/
theorem globalClamps_eq (hg : g ≠ .profileThresholds) : globalClamps g v1 v2 v = decide (globalClamp g v ≠ v) := by
  simp only [globalClamps, hg, decide_false, Bool.false_and, Bool.or_false]

theorem commitItem_globalPut (hg : g ≠ .profileThresholds) (hl : g ≠ .lossLimit) :
    commitItem m (.globalPut g v1 v2 v) s =
      .ok ({ s with globals := s.globals.put (globalClamp g v1) (globalClamp g v2) (globalClamp g v) g },
        decide (globalClamp g v ≠ v)) := by
  rw [commitItem, putGlobal_ok (fun h => hg h.1) hl, globalClamps_eq hg]
  rfl

theorem commitItem_lossLimit : commitItem m (.globalPut .lossLimit v1 v2 v) s =
    .ok ({ s with
      globals := { s.globals with lossLimit := clampNat 1 15 v },
      origins := tabMap (Origin.relane (clampNat 1 15 v)) s.origins }, decide (clampNat 1 15 v ≠ v)) := by
  rw [commitItem, putGlobal, if_neg (by simp), globalClamps_eq (by simp)]
  rfl

/-- A put of a number takes it into its range and sets the one setting. -/
theorem commitItem_numbered {lo hi : Nat} {new : Nat → Globals} (hc : globalClamp g v = clampNat lo hi v)
    (hnew : s.globals.put (globalClamp g v1) (globalClamp g v2) (globalClamp g v) g = new (globalClamp g v))
    (hplain : g ≠ .profileThresholds ∧ g ≠ .lossLimit ∧ lo ≤ hi := by decide) :
    ∃ w, Limited lo hi v w ∧
      commitItem m (.globalPut g v1 v2 v) s = .ok ({ s with globals := new w }, decide (w ≠ v)) := by
  obtain ⟨hg, hl, hr⟩ := hplain
  exact ⟨globalClamp g v, hc ▸ limited_clampNat hr v, by rw [commitItem_globalPut hg hl, hnew]⟩

/-- A put of a code takes it as it is. -/
theorem commitItem_coded {new : Globals} (hc : globalClamp g v = v)
    (hnew : s.globals.put (globalClamp g v1) (globalClamp g v2) v g = new)
    (hplain : g ≠ .profileThresholds ∧ g ≠ .lossLimit := by decide) :
    commitItem m (.globalPut g v1 v2 v) s = .ok ({ s with globals := new }, false) := by
  rw [commitItem_globalPut hplain.1 hplain.2, hc, hnew, decide_eq_false (not_not.2 rfl)]

theorem commitItem_thresholds_rise (h12 : clampNat 1 32767 v1 < clampNat 1 32767 v2)
    (h23 : clampNat 1 32767 v2 < clampNat 1 32767 v) : commitItem m (.globalPut .profileThresholds v1 v2 v) s =
    .ok ({ s with globals := { s.globals with profile := { s.globals.profile with
        t1 := clampNat 1 32767 v1, t2 := clampNat 1 32767 v2, t3 := clampNat 1 32767 v } } },
      decide (clampNat 1 32767 v1 ≠ v1 ∨ clampNat 1 32767 v2 ≠ v2 ∨ clampNat 1 32767 v ≠ v)) := by
  have hclamps : globalClamps .profileThresholds v1 v2 v =
      decide (clampNat 1 32767 v1 ≠ v1 ∨ clampNat 1 32767 v2 ≠ v2 ∨ clampNat 1 32767 v ≠ v) := by
    simp only [globalClamps, globalClamp, decide_true, Bool.true_and, Bool.decide_or]
    exact (Bool.or_comm ..).trans (Bool.or_assoc ..)
  have horder : ¬ thresholdsRise (clampNat 1 32767 v1) (clampNat 1 32767 v2) (clampNat 1 32767 v) = false := by
    rw [Bool.not_eq_false, thresholdsRise_iff]
    exact ⟨h12, h23⟩
  simp only [commitItem, globalClamp]
  rw [putGlobal_ok (fun h => horder h.2) (by simp), hclamps]
  rfl

theorem commitItem_thresholds_fall (h : clampNat 1 32767 v2 ≤ clampNat 1 32767 v1 ∨
      clampNat 1 32767 v ≤ clampNat 1 32767 v2) :
    commitItem m (.globalPut .profileThresholds v1 v2 v) s = .error .order := by
  have hrise : ¬ thresholdsRise (clampNat 1 32767 v1) (clampNat 1 32767 v2) (clampNat 1 32767 v) = true := by
    rw [thresholdsRise_iff]
    omega
  rw [commitItem, putGlobal, if_pos ⟨rfl, Bool.eq_false_of_not_eq_true hrise⟩]
  rfl

end

/-- Settles O58: each range is a `clampNat` or a `clampMag`, and each put sets its setting to the limited value. -/
theorem valuesOutsideTheirRangesAreClamped : Obligations.ValuesOutsideTheirRangesAreClamped := by
  refine ⟨fun f => ⟨limited_clampNat (by decide) _, limited_clampNat (by decide) _, limited_clampNat (by decide) _,
      limited_clampNat (by decide) _, limited_clampNat (by decide) _, limited_clampNat (by decide) _,
      limited_clampNat (by decide) _, limited_clampNat (by decide) _, limited_clampNat (by decide) _,
      limited_clampNat (by decide) _, limited_clampNat (by decide) _, fun hm => ?_, fun hm => if_neg hm, rfl, rfl, rfl,
      rfl, rfl, rfl⟩,
    fun v => ⟨nearestLinkFail_mem v, nearestLinkFail_nearest v, nearestLinkFail_eq_iff v⟩, laneStateOf_cases, ?_⟩
  · have hmanual : f.clamped.manual = clampMag Config.maxSkew f.manual := if_pos hm
    rw [hmanual]
    exact clampMag_limited f.manual
  intro m s v1 v2 v x p put numbered coded
  refine ⟨commitItem_numbered rfl rfl, ⟨_, limited_clampNat (by decide) v, commitItem_lossLimit⟩,
    commitItem_numbered rfl rfl, commitItem_numbered rfl rfl, commitItem_numbered rfl rfl, commitItem_numbered rfl rfl,
    commitItem_numbered rfl rfl, commitItem_numbered rfl rfl, commitItem_numbered rfl rfl, commitItem_numbered rfl rfl,
    commitItem_numbered rfl rfl, commitItem_numbered rfl rfl, commitItem_numbered rfl rfl, commitItem_numbered rfl rfl,
    commitItem_numbered rfl rfl, commitItem_globalPut nofun nofun,
    ⟨_, _, _, limited_clampNat (by decide) v1, limited_clampNat (by decide) v2, limited_clampNat (by decide) v,
      commitItem_thresholds_rise, commitItem_thresholds_fall⟩, fun b hb => ?_, fun mode hmode => ?_, rfl⟩
  · have hone : decide (v = 1) = b := by cases b <;> simp [hb]
    have hzero {α : Type} (y z : α) : (if v = 0 then y else z) = if b then z else y := by cases b <;> simp [hb]
    refine ⟨commitItem_coded rfl ?_, commitItem_coded rfl ?_, commitItem_coded rfl ?_, commitItem_coded rfl ?_, ?_, ?_⟩
    · rw [Globals.put, hone]
    · rw [Globals.put, Globals.onProfile, hone]
    · rw [Globals.put, Globals.onProfile, hone]
    · rw [Globals.put, hzero]
    · rw [commitItem, putBay, BaySettings.put, hzero]
    · rw [commitItem, putBay, BaySettings.put, hone]
  · refine commitItem_coded rfl ?_
    cases mode <;> cases hmode <;> rfl

end Sys2Proof.Machine
end

section
/-! SUPPORT. The taking of an apply (R152, R153, R158, R159): its items one after another, with the number of the first
that reports a clamp, and what is left when one fails and when none does. -/

namespace Sys2Proof.Machine

/-! ## The number of the first clamp -/

section
variable {cs : List Bool} {first k : Nat}

theorem firstClamped_nil : FirstClamped [] first ↔ first = 0 := by
  refine ⟨fun h => by_contra fun hne => ?_, ?_⟩
  · obtain ⟨htrue, -⟩ := h.2 hne
    cases htrue
  · rintro rfl
    exact ⟨fun _ => nofun, absurd rfl⟩

theorem firstClamped_true : FirstClamped (true :: cs) first ↔ first = 1 := by
  constructor
  · rintro ⟨hzero, hpos⟩
    by_cases h0 : first = 0
    · cases hzero h0 true List.mem_cons_self
    · by_contra hne
      obtain ⟨-, hbefore⟩ := hpos h0
      cases hbefore 0 (by omega)
  · rintro rfl
    exact ⟨nofun, fun _ => ⟨rfl, fun k hk => by omega⟩⟩

theorem firstClamped_false_zero : FirstClamped (false :: cs) 0 ↔ FirstClamped cs 0 := by
  simp [FirstClamped]

theorem not_firstClamped_false_one : ¬ FirstClamped (false :: cs) 1 := by
  rintro ⟨-, h⟩
  cases (h Nat.one_ne_zero).1

theorem firstClamped_false_succ : FirstClamped (false :: cs) (k + 2) ↔ FirstClamped cs (k + 1) := by
  constructor
  · rintro ⟨-, h⟩
    obtain ⟨htrue, hbefore⟩ := h (by omega)
    exact ⟨nofun, fun _ => ⟨htrue, fun j hj => hbefore (j + 1) (by omega)⟩⟩
  · rintro ⟨-, h⟩
    obtain ⟨htrue, hbefore⟩ := h (by omega)
    refine ⟨nofun, fun _ => ⟨htrue, fun j hj => ?_⟩⟩
    cases j with
    | zero => rfl
    | succ j => exact hbefore j (by omega)

/-- The first clamp after an item without one is numbered one higher, and no clamp stays none. -/
theorem firstClamped_false : FirstClamped (false :: cs) first ↔
    ∃ later, FirstClamped cs later ∧ first = if later = 0 then 0 else later + 1 := by
  constructor
  · intro h
    obtain _ | _ | k := first
    · exact ⟨0, firstClamped_false_zero.1 h, rfl⟩
    · exact absurd h not_firstClamped_false_one
    · exact ⟨k + 1, firstClamped_false_succ.1 h, rfl⟩
  · rintro ⟨_ | k, h, rfl⟩
    · exact firstClamped_false_zero.2 h
    · exact firstClamped_false_succ.2 h

end

/-! ## The items one after another (R153, R158) -/

section
variable {m : Master} {it : Item} {its : List Item} {n first last : Nat} {s u v : State}

theorem commitItems_cons_error {reason : RefusalReason} (h : commitItem m it s = .error reason) :
    commitItems m (it :: its) n first s = .error (reason, n) := by
  rw [commitItems, h]

theorem commitItems_cons_ok {c : Bool} (h : commitItem m it s = .ok (v, c)) : commitItems m (it :: its) n first s =
    commitItems m its (n + 1) (if c = true ∧ first = 0 then n else first) v := by
  rw [commitItems, h]

theorem commitsInTurn_cons {c : Bool} (h : commitItem m it s = .ok (v, c)) (clamps : List Bool) :
    CommitsInTurn m (it :: its) s clamps u ↔ ∃ rest, clamps = c :: rest ∧ CommitsInTurn m its v rest u := by
  constructor
  · rintro ⟨v', c', rest, h', hclamps, hrest⟩
    cases h.symm.trans h'
    exact ⟨rest, hclamps, hrest⟩
  · rintro ⟨rest, hclamps, hrest⟩
    exact ⟨v, c, rest, h, hclamps, hrest⟩

theorem not_commitsInTurn_of_error {reason : RefusalReason} (h : commitItem m it s = .error reason)
    (clamps : List Bool) : ¬ CommitsInTurn m (it :: its) s clamps u := by
  rintro ⟨v, c, rest, h', -⟩
  cases h.symm.trans h'

/-- Once a clamp is numbered, later items leave the number. -/
theorem commitItems_clamped_iff : ∀ {its : List Item} {n : Nat} {s : State}, first ≠ 0 →
    (commitItems m its n first s = .ok (u, last) ↔ (∃ clamps, CommitsInTurn m its s clamps u) ∧ last = first)
  | [], n, s, hf => by
    simp only [commitItems, CommitsInTurn, Except.ok.injEq, Prod.mk.injEq, exists_and_right, exists_eq, true_and]
    exact and_congr eq_comm eq_comm
  | it :: its, n, s, hf => by
    cases h : commitItem m it s with
    | error reason => simp [commitItems_cons_error h, not_commitsInTurn_of_error h]
    | ok x =>
      obtain ⟨v, c⟩ := x
      rw [commitItems_cons_ok h, if_neg (hf ·.2), commitItems_clamped_iff hf]
      simp [commitsInTurn_cons h]

/-- Items numbered from `p + 1` on that all commit, none clamped before: the first clamp is counted on from `p`. -/
theorem commitItems_ok_iff : ∀ {its : List Item} {p : Nat} {s : State},
    commitItems m its (p + 1) 0 s = .ok (u, last) ↔
      ∃ clamps first, CommitsInTurn m its s clamps u ∧ FirstClamped clamps first ∧
        last = if first = 0 then 0 else p + first
  | [], p, s => by
    constructor
    · intro h
      cases h
      exact ⟨[], 0, ⟨rfl, rfl⟩, firstClamped_nil.2 rfl, rfl⟩
    · rintro ⟨_, first, ⟨rfl, rfl⟩, hfirst, rfl⟩
      rw [firstClamped_nil.1 hfirst]
      rfl
  | it :: its, p, s => by
    cases h : commitItem m it s with
    | error reason => simp [commitItems_cons_error h, not_commitsInTurn_of_error h]
    | ok x =>
      obtain ⟨v, c⟩ := x
      rw [commitItems_cons_ok h]
      cases c with
      | true =>
        rw [if_pos ⟨rfl, rfl⟩, commitItems_clamped_iff (Nat.succ_ne_zero p)]
        constructor
        · rintro ⟨⟨rest, hrest⟩, rfl⟩
          exact ⟨true :: rest, 1, (commitsInTurn_cons h _).2 ⟨rest, rfl, hrest⟩, firstClamped_true.2 rfl, rfl⟩
        · rintro ⟨clamps, first, hturn, hfirst, rfl⟩
          obtain ⟨rest, rfl, hrest⟩ := (commitsInTurn_cons h _).1 hturn
          rw [firstClamped_true.1 hfirst]
          exact ⟨⟨rest, hrest⟩, rfl⟩
      | false =>
        have hshift (later : Nat) : (if later = 0 then 0 else p + 1 + later) =
            if (if later = 0 then 0 else later + 1) = 0 then 0 else p + if later = 0 then 0 else later + 1 := by
          by_cases h0 : later = 0
          · simp [h0]
          · simp [h0]
            omega
        rw [if_neg fun h => Bool.false_ne_true h.1, commitItems_ok_iff]
        constructor
        · rintro ⟨rest, first, hrest, hfirst, rfl⟩
          refine ⟨false :: rest, _, (commitsInTurn_cons h _).2 ⟨rest, rfl, hrest⟩,
            firstClamped_false.2 ⟨first, hfirst, rfl⟩, hshift first⟩
        · rintro ⟨clamps, first, hturn, hfirst, rfl⟩
          obtain ⟨rest, rfl, hrest⟩ := (commitsInTurn_cons h _).1 hturn
          obtain ⟨later, hlater, rfl⟩ := firstClamped_false.1 hfirst
          exact ⟨rest, later, hrest, hlater, (hshift later).symm⟩

/-- Items that all commit: each in the state the earlier ones left, and the number of the first clamp. -/
theorem commitItems_ok_iff_inTurn : commitItems m its 1 0 s = .ok (u, last) ↔
    ∃ clamps, CommitsInTurn m its s clamps u ∧ FirstClamped clamps last := by
  rw [commitItems_ok_iff (p := 0)]
  have hsame (first : Nat) : (if first = 0 then 0 else 0 + first) = first := by split <;> omega
  simp only [hsame]
  exact exists_congr fun clamps => ⟨fun ⟨_, hturn, hfirst, e⟩ => ⟨hturn, e ▸ hfirst⟩, fun ⟨hturn, hfirst⟩ =>
    ⟨last, hturn, hfirst, rfl⟩⟩

/-- The failing item is the first that fails in the state the earlier ones left. -/
theorem commitItems_error {reason : RefusalReason} {k : Nat} : ∀ {its : List Item} {n first : Nat} {s : State},
    commitItems m its n first s = .error (reason, k) → n ≤ k ∧ ∃ it u f, its[k - n]? = some it ∧
      commitItems m (its.take (k - n)) n first s = .ok (u, f) ∧ commitItem m it u = .error reason
  | [], n, first, s, h => by cases h
  | it :: its, n, first, s, h => by
    cases hc : commitItem m it s with
    | error reason' =>
      rw [commitItems_cons_error hc] at h
      cases h
      rw [Nat.sub_self]
      exact ⟨le_rfl, it, s, first, rfl, rfl, hc⟩
    | ok x =>
      obtain ⟨v, c⟩ := x
      rw [commitItems_cons_ok hc] at h
      obtain ⟨hle, it', u, f, hit, hok, herr⟩ := commitItems_error h
      have hnext : k - n = k - (n + 1) + 1 := by omega
      rw [hnext, List.take_succ_cons, commitItems_cons_ok hc]
      exact ⟨by omega, it', u, f, hit, hok, herr⟩

end

/-! ## What the items leave of APPLY DONE (R159) -/

/-- Neither link's APPLY DONE flag moved. -/
def KeepsDone (s t : State) : Prop :=
  ∀ k : Master, hasKind (t.links.get k).flags .applyDone = hasKind (s.links.get k).flags .applyDone

section
variable {m : Master} {s t u : State}

theorem KeepsDone.of_links (h : t.links = s.links) : KeepsDone s t := fun k => by rw [h]

theorem KeepsDone.trans (h : KeepsDone s t) (h' : KeepsDone t u) : KeepsDone s u := fun k => (h' k).trans (h k)

theorem markChange_keepsDone (i : Nat) (s : State) : KeepsDone s (markChange i s) := by
  have hbit (e : EventSet) : hasKind (e ||| EventKind.originChange.bit) .applyDone = hasKind e .applyDone := by
    simp [hasKind_or_bit]
  rintro (_ | _)
  · exact hbit s.links.one.flags
  · exact hbit s.links.two.flags

theorem createSilent_keepsDone (r : Origin) (s : State) : KeepsDone s (createSilent r s) := by
  have hbit (c : ControlLink) (size i : Nat) :
      hasKind (c.toldNew size i).flags .applyDone = hasKind c.flags .applyDone := by
    unfold ControlLink.toldNew
    dsimp only
    split <;> simp [hasKind_or_bit]
  rw [createSilent_eq]
  rintro (_ | _)
  · exact hbit s.links.one _ _
  · exact hbit s.links.two _ _

theorem putOrigin_keepsDone {a : Addr} {f : PutFields} (h : putOrigin m a f s = .ok t) : KeepsDone s t := by
  unfold putOrigin at h
  split at h
  · split at h
    · cases h
    · split at h
      · cases h
      · split at h
        · cases h
        · split at h
          · cases h
            exact markChange_keepsDone _ (s.setOrigin _ _)
          · cases h
            exact .of_links rfl
  · split at h
    · cases h
    · split at h
      · cases h
      · split at h
        · cases h
        · cases h
          exact createSilent_keepsDone _ s

theorem deleteOrigin_keepsDone {a : Addr} (h : deleteOrigin m a s = .ok t) : KeepsDone s t := by
  unfold deleteOrigin at h
  split at h
  · cases h
  · split at h
    · cases h
    · split at h
      · cases h
      · dsimp only at h
        split at h
        · cases h
          exact .of_links rfl
        · split at h
          · cases h
          · cases h
            exact markChange_keepsDone _ _

theorem commitItem_keepsDone {it : Item} {c : Bool} (h : commitItem m it s = .ok (t, c)) : KeepsDone s t := by
  cases it with
  | originPut a f => exact putOrigin_keepsDone (ok_of_map h)
  | originDelete a => exact deleteOrigin_keepsDone (ok_of_map h)
  | originShare a =>
    obtain ⟨o, e⟩ := shareOrigin_frame (ok_of_map h)
    exact .of_links (by rw [e])
  | groupJoin a cls =>
    obtain ⟨g, e⟩ := joinGroup_frame (ok_of_map h)
    exact .of_links (by rw [e])
  | groupLeave a =>
    cases h
    obtain ⟨g, e⟩ := leaveGroup_frame s m a
    exact .of_links (by rw [e])
  | globalPut g v1 v2 v3 =>
    obtain ⟨o, e⟩ := putGlobal_frame (ok_of_map h)
    exact .of_links (by rw [e])
  | bayPut b v =>
    cases h
    exact .of_links rfl

theorem commitItems_keepsDone : ∀ {its : List Item} {n first last : Nat} {s : State},
    commitItems m its n first s = .ok (t, last) → KeepsDone s t
  | [], _, _, _, _, h => by
    cases h
    exact .of_links rfl
  | it :: its, n, first, last, s, h => by
    simp only [commitItems] at h
    split at h
    · cases h
    · next hc => exact (commitItem_keepsDone hc).trans (commitItems_keepsDone h)

theorem Compared.keepsDone {P C : Nat → Origin → Prop} (h : Compared P C s t) : KeepsDone s t := by
  have htold {E : Nat → Prop} {c d : ControlLink} (h : ControlLink.Told E c d) :
      hasKind d.flags .applyDone = hasKind c.flags .applyDone := by
    obtain ⟨-, hflags, hsame, -⟩ := h
    by_cases hE : ∃ i, E i
    · simp [hflags hE, hasKind_or_bit]
    · rw [hsame hE]
  obtain ⟨-, -, hone, htwo, -⟩ := compared_iff.1 h
  rintro (_ | _)
  · exact htold hone
  · exact htold htwo

/-! ## One taking -/

theorem finishApply_eq (m : Master) (r : ApplyResult) (s : State) : finishApply m r s = { s with
    applyPending := s.applyPending.set m false, applyResult := s.applyResult.set m r,
    links := s.links.set m { s.links.get m with
      flags := (s.links.get m).flags ||| EventKind.applyDone.bit } } := rfl

theorem takeApply_of_error {reason : RefusalReason} {n : Nat}
    (h : commitItems m (s.staging.get m) 1 0 s = .error (reason, n)) :
    takeApply m s = finishApply m (.refused reason n) s := by
  rw [takeApply, h]

theorem takeApply_of_ok {first : Nat} (h : commitItems m (s.staging.get m) 1 0 s = .ok (u, first)) :
    takeApply m s = finishApply m
      (if first = 0 then .accepted (s.staging.get m).length else .clamped (s.staging.get m).length first)
      { compareAll u with staging := (compareAll u).staging.set m [] } := by
  rw [takeApply, h]

/-- The items and the comparisons leave what an apply keeps of the state for its end. -/
theorem compareAll_of_committed {first : Nat} {its : List Item} (h : commitItems m its 1 0 s = .ok (u, first)) :
    (compareAll u).staging = s.staging ∧ (compareAll u).applyPending = s.applyPending ∧
      (compareAll u).applyResult = s.applyResult := by
  obtain ⟨o, q, g, gl, bc, k, e⟩ := commitItems_frame h
  obtain ⟨o', k', e'⟩ := compareAll_frame u
  rw [e', e]
  exact ⟨rfl, rfl, rfl⟩

theorem applyTakenEffect_of_one (h : s.applyPending.one = true) : applyTakenEffect s = takeApply .m1 s := if_pos h

theorem applyTakenEffect_of_two (h1 : s.applyPending.one = false) (h2 : s.applyPending.two = true) :
    applyTakenEffect s = takeApply .m2 s := by
  rw [applyTakenEffect, if_neg (by simp [h1]), if_pos h2]

theorem applyTakenEffect_of_none (h1 : s.applyPending.one = false) (h2 : s.applyPending.two = false) :
    applyTakenEffect s = s := by
  rw [applyTakenEffect, if_neg (by simp [h1]), if_neg (by simp [h2])]

end

/-- Settles O56: a taking that fails ends at once, and one that commits ends with the comparison of every record. -/
theorem applyCommitsAllOrNothing : Obligations.ApplyCommitsAllOrNothing := by
  intro s taken
  have hexec : exec .applyTaken s = .next (applyTakenEffect s) := rfl
  have htaken (m : Master) : taken m (takeApply m s) := by
    refine ⟨fun reason n h => ⟨takeApply_of_error h, commitItems_error h⟩, fun u first => commitItems_ok_iff_inTurn,
      fun u first h => ?_⟩
    obtain ⟨hstaging, hpending, hresult⟩ := compareAll_of_committed h
    have hcompared := compareAll_compared u
    have hdone := (commitItems_keepsDone h).trans hcompared.keepsDone
    obtain ⟨hnone, hsome, -⟩ := compared_iff.1 hcompared
    obtain ⟨o, k, hframe⟩ := compareAll_frame u
    rw [takeApply_of_ok h, finishApply_eq]
    dsimp only
    refine ⟨by rw [hstaging], by rw [hpending], by rw [hresult], by simp [hasKind_or_bit], ?_, by rw [hframe],
      by rw [hframe], by rw [hframe], by rw [hframe], fun i => ⟨hnone i, fun r hr => ?_⟩, fun _ =>
        ⟨compareAll u, hcompared, rfl⟩⟩
    · rw [PerMaster.get_set_other]
      exact hdone (otherMaster m)
    · obtain ⟨n, hn, -⟩ := hsome i r hr
      exact ⟨n, hn⟩
  refine ⟨fun h1 => ⟨_, hexec, ?_⟩, fun h1 h2 => ⟨_, hexec, ?_⟩, fun h1 h2 => ?_⟩
  · rw [applyTakenEffect_of_one h1]
    exact htaken .m1
  · rw [applyTakenEffect_of_two h1 h2]
    exact htaken .m2
  · rw [hexec, applyTakenEffect_of_none h1 h2]

end Sys2Proof.Machine
end

section
/-! SUPPORT. Ownership (R153 to R156): one equation for each answer of an origin item and of a group item, and what a
put makes of a pipeline (R99 to R101). -/

namespace Sys2Proof.Machine

/-! ## Owners and members -/

section
variable {m : Master} {x : PerMaster Bool}

theorem set_false_some_iff :
    (x.set m false).one = true ∨ (x.set m false).two = true ↔ x.get (otherMaster m) = true := by
  cases m <;> simp [PerMaster.set, PerMaster.get, otherMaster]

theorem learned_of_owner {r : Origin} (h : r.owners.get m = true) : r.learned = false := by
  rw [learned_eq_false_iff]
  cases m with
  | m1 => exact .inl h
  | m2 => exact .inr h

theorem not_learned_iff (r : Origin) : r.learned = false ↔ r.owners ≠ ⟨false, false⟩ := by
  rw [ne_eq, ← learned_iff, Bool.not_eq_true]

end

/-! ## Reference links (R155) -/

theorem isLead_eq_true_iff {t : List (Nat × Origin)} {i : Nat} :
    isLead t i = true ↔ ∃ e ∈ t, e.2.cfg.ref = some i := by
  simp only [isLead, List.any_eq_true, decide_eq_true_eq]

theorem isLead_eq_false_iff {t : List (Nat × Origin)} {i : Nat} :
    isLead t i = false ↔ ∀ e ∈ t, e.2.cfg.ref ≠ some i := by
  simp only [isLead, List.any_eq_false, decide_eq_true_eq, ne_eq]

/-- A link resolves to an index exactly where R155 admits it. -/
theorem resolveRef_iff {s : State} {a : Addr} {ref : Option Addr} {x : Option Nat} :
    resolveRef s a ref = some x ↔ RefResolves s a ref x := by
  cases ref with
  | none => exact Option.some_inj.trans eq_comm
  | some b =>
    rw [resolveRef]
    by_cases hb : b = a
    · rw [if_pos hb]
      exact iff_of_false nofun fun h => h.1 hb
    rw [if_neg hb]
    cases hlead : findOrigin s b with
    | none =>
      refine iff_of_false nofun ?_
      rintro ⟨-, ⟨_, _, -, h, -⟩, -⟩
      cases hlead.symm.trans h
    | some e =>
      obtain ⟨i, lead⟩ := e
      dsimp only
      split
      · next hbad =>
        refine iff_of_false nofun ?_
        rintro ⟨-, ⟨_, _, -, h, hl, href⟩, -⟩
        cases hlead.symm.trans h
        simp [hl, href] at hbad
      · next hfit =>
        rw [not_or, Bool.not_eq_true, Bool.not_eq_true, Option.isSome_eq_false_iff, Option.isNone_iff_eq_none] at hfit
        have hadmitted (hfree : ∀ me r, findOrigin s a = some (me, r) → ∀ e ∈ s.origins, e.2.cfg.ref ≠ some me) :
            some (some i) = some x ↔ RefResolves s a (some b) x := by
          constructor
          · rintro ⟨⟩
            exact ⟨hb, ⟨i, lead, rfl, hlead, hfit⟩, hfree⟩
          · rintro ⟨-, ⟨_, _, rfl, h, -⟩, -⟩
            cases hlead.symm.trans h
            rfl
        cases hown : findOrigin s a with
        | none => exact hadmitted fun me r h => nomatch hown.symm.trans h
        | some e =>
          obtain ⟨me, r⟩ := e
          dsimp only
          split
          · next hled =>
            obtain ⟨e, he, href⟩ := isLead_eq_true_iff.1 hled
            exact iff_of_false nofun fun h => h.2.2 me r hown e he href
          · next hled =>
            refine hadmitted fun me' r' h => ?_
            cases hown.symm.trans h
            exact isLead_eq_false_iff.1 (Bool.eq_false_of_not_eq_true hled)

theorem resolveRef_eq_none {s : State} {a : Addr} {ref : Option Addr} (h : ¬ ∃ x, RefResolves s a ref x) :
    resolveRef s a ref = none :=
  Option.eq_none_iff_forall_ne_some.2 fun x hx => h ⟨x, resolveRef_iff.1 hx⟩

/-! ## The pipeline under a put (R99 to R101) -/

theorem reseedPipeline_of_unseeded {cfg : OriginSettings} {p : Pipeline} (h : p.seeded = false) :
    reseedPipeline cfg p = p := if_pos h

theorem committedPipe_reconfigure (new : OriginSettings) (reseed : Bool) (r : Origin) :
    CommittedPipe r.cfg new reseed r.pipe (r.reconfigure new reseed).pipe := by
  refine ⟨commitPipeline r.cfg new r.pipe, fun hmode => ?_, fun hmode => ?_, ?_, ?_⟩
  · rw [commitPipeline, if_pos hmode]
    refine ⟨fun h => ?_, fun h => ?_, fun h => ?_, fun h => ?_⟩ <;> rw [h]
    · rfl
    · simp only [Level.high_iff]
  · rw [commitPipeline, if_neg (not_not.2 hmode)]
    simp only [Option.isSome_iff_ne_none]
  · rintro (rfl | h)
    · rfl
    · cases reseed
      · rfl
      · exact reseedPipeline_of_unseeded h
  · rintro rfl hseeded
    exact if_neg (by simp [hseeded])

/-! ## Puts (R153 to R155) -/

/-- An address is held by a configured record that does not list a master (R154). -/
def Foreign (m : Master) (a : Addr) (s : State) : Prop :=
  ∃ i r, findOrigin s a = some (i, r) ∧ r.owners ≠ ⟨false, false⟩ ∧ r.owners.get m = false

section
variable {m : Master} {a : Addr} {f : PutFields} {s : State} {i : Nat} {r : Origin} {x : Option Nat}

theorem putOrigin_of_foreign (hf : findOrigin s a = some (i, r)) (hl : r.learned = false)
    (ho : r.owners.get m = false) : putOrigin m a f s = .error .notOwner := by
  rw [putOrigin, hf]
  exact if_pos ⟨hl, ho⟩

theorem not_foreign_record (hmine : ¬ Foreign m a s) (hf : findOrigin s a = some (i, r)) :
    ¬ (r.learned = false ∧ r.owners.get m = false) := fun h =>
  hmine ⟨i, r, hf, (not_learned_iff r).1 h.1, h.2⟩

theorem putOrigin_of_fall (hmine : ¬ Foreign m a s) (h : thresholdsRise f.t1 f.t2 f.t3 = false) :
    putOrigin m a f s = .error .order := by
  unfold putOrigin
  split
  · next hf => rw [if_neg (not_foreign_record hmine hf), if_pos h]
  · rw [if_pos h]

theorem putOrigin_of_no_reference (hmine : ¬ Foreign m a s) (h : thresholdsRise f.t1 f.t2 f.t3 = true)
    (href : resolveRef s a f.ref = none) : putOrigin m a f s = .error .reference := by
  unfold putOrigin
  split
  · next hf => rw [if_neg (not_foreign_record hmine hf), if_neg (by simp [h]), href]
  · rw [if_neg (by simp [h]), href]

theorem putOrigin_of_full (hf : findOrigin s a = none) (h : thresholdsRise f.t1 f.t2 f.t3 = true)
    (href : resolveRef s a f.ref = some x) (hfull : 256 ≤ s.origins.length) :
    putOrigin m a f s = .error .noRoom := by
  rw [putOrigin, hf]
  dsimp only
  rw [if_neg (by simp [h]), href]
  exact if_pos ((tableFull_iff s).2 hfull)

theorem putOrigin_of_room (hf : findOrigin s a = none) (h : thresholdsRise f.t1 f.t2 f.t3 = true)
    (href : resolveRef s a f.ref = some x) (hroom : s.origins.length < 256) :
    putOrigin m a f s = .ok (createSilent (Origin.fresh a (soleOwner m) (f.settings x 0)) s) := by
  rw [putOrigin, hf]
  dsimp only
  rw [if_neg (by simp [h]), href]
  exact if_neg fun hfull => not_le.2 hroom ((tableFull_iff s).1 hfull)

theorem putOrigin_of_learned (hf : findOrigin s a = some (i, r)) (hl : r.learned = true)
    (h : thresholdsRise f.t1 f.t2 f.t3 = true) (href : resolveRef s a f.ref = some x) : putOrigin m a f s =
      .ok { markChange i (s.setOrigin i (r.promote m (f.settings x 0) f.reseed)) with
        silentOrder := s.silentOrder.erase i } := by
  rw [putOrigin, hf]
  dsimp only
  rw [if_neg (by simp [hl]), if_neg (by simp [h]), href]
  exact if_pos hl

theorem putOrigin_of_own (hf : findOrigin s a = some (i, r)) (ho : r.owners.get m = true)
    (h : thresholdsRise f.t1 f.t2 f.t3 = true) (href : resolveRef s a f.ref = some x) :
    putOrigin m a f s = .ok (s.setOrigin i (r.reconfigure (f.settings x r.cfg.manual) f.reseed)) := by
  rw [putOrigin, hf]
  dsimp only
  rw [if_neg (by simp [ho]), if_neg (by simp [h]), href]
  exact if_neg (by simp [learned_of_owner ho])

theorem commitItem_put_error {e : RefusalReason} (h : putOrigin m a f.clamped s = .error e) :
    commitItem m (.originPut a f) s = .error e := by
  rw [commitItem, h]
  rfl

theorem commitItem_put_ok {t : State} (h : putOrigin m a f.clamped s = .ok t) :
    commitItem m (.originPut a f) s = .ok (t, decide (f.clamped ≠ f)) := by
  rw [commitItem, h]
  rfl

/-! ## A created record (R37, R44) -/

theorem fresh_put (m : Master) (a : Addr) (f : PutFields) (x : Option Nat) :
    Origin.fresh a (soleOwner m) (f.settings x 0) = {
      addr := a, owners := soleOwner m, forgetTime := none, note := none, cfg := f.settings x 0,
      win := ⟨false, 0, 0, [], 0⟩, lane := ⟨⟨0, 0⟩, .silent, ⟨none, none⟩, none⟩,
      pipe := ⟨false, 0, if f.mode = .manual then f.manual else 0, 0, 0, .neither, .steady, .steady, 0, 0, none⟩,
      notif := ⟨.steady, .neither, .silent⟩, cnt := ⟨0, 0, 0, 0, 0, 0, 0, 0, 0, 0, 0, 0⟩, silence := none,
      forget := none } := by
  have hbaseline : (if f.mode = .manual then (if f.mode = .manual then f.manual else 0) else 0) =
      if f.mode = .manual then f.manual else 0 := by split <;> rfl
  rw [← hbaseline]
  rfl

theorem toldNew_eq (size i : Nat) (c : ControlLink) : c.toldNew size i =
    let d := if size = 255 then { c with flags := c.flags ||| EventKind.tableFull.bit } else c
    { d with changes := setInsert i d.changes, flags := d.flags ||| EventKind.originChange.bit } := by
  unfold ControlLink.toldNew
  split <;> rfl

/-! ## Deletes and shares (R154, R155) -/

/-- No configured record holds the address. -/
theorem commitItem_of_unowned (h : ∀ i r, findOrigin s a = some (i, r) → r.learned = true) :
    commitItem m (.originDelete a) s = .error .unknown ∧ commitItem m (.originShare a) s = .error .unknown := by
  rw [commitItem, commitItem, deleteOrigin, shareOrigin]
  cases hf : findOrigin s a with
  | none => exact ⟨rfl, rfl⟩
  | some e =>
    obtain ⟨i, r⟩ := e
    dsimp only
    rw [if_pos (h i r hf), if_pos (h i r hf)]
    exact ⟨rfl, rfl⟩

/-- A configured record that does not list the master holds the address. -/
theorem commitItem_of_foreign (hf : findOrigin s a = some (i, r)) (hl : r.learned = false)
    (ho : r.owners.get m = false) :
    commitItem m (.originPut a f) s = .error .notOwner ∧ commitItem m (.originDelete a) s = .error .notOwner ∧
      commitItem m (.originShare a) s = .error .notOwner := by
  have hdelete : deleteOrigin m a s = .error .notOwner := by
    rw [deleteOrigin, hf]
    dsimp only
    rw [if_neg (by simp [hl]), if_pos ho]
  have hshare : shareOrigin m a s = .error .notOwner := by
    rw [shareOrigin, hf]
    dsimp only
    rw [if_neg (by simp [hl]), if_pos ho]
  rw [commitItem_put_error (putOrigin_of_foreign hf hl ho), commitItem, commitItem, hdelete, hshare]
  exact ⟨rfl, rfl, rfl⟩

theorem commitItem_share_of_own (hf : findOrigin s a = some (i, r)) (ho : r.owners.get m = true) :
    commitItem m (.originShare a) s = .ok (s.setOrigin i { r with owners := ⟨true, true⟩ }, false) := by
  rw [commitItem, shareOrigin, hf]
  dsimp only
  rw [if_neg (by simp [learned_of_owner ho]), if_neg (by simp [ho])]
  rfl

/-- A delete by an owner: the record loses that owner, and with the last one it goes unless it is a lead. -/
theorem commitItem_delete_of_own (hf : findOrigin s a = some (i, r)) (ho : r.owners.get m = true) :
    commitItem m (.originDelete a) s =
      if r.owners.get (otherMaster m) = true then .ok (s.setOrigin i { r with owners := r.owners.set m false }, false)
      else if isLead s.origins i = true then .error .referenced else .ok (removeOrigin i s, false) := by
  rw [commitItem, deleteOrigin, hf]
  dsimp only
  rw [if_neg (by simp [learned_of_owner ho]), if_neg (by simp [ho]), if_congr set_false_some_iff rfl rfl]
  split
  · rfl
  · split <;> rfl

/-! ## Joins and leaves (R132, R156) -/

variable {cls : GroupClass} {e : Group}

theorem commitItem_join_of_full (hf : findGroup s.groups a = none) (h : 64 ≤ s.groups.length) :
    commitItem m (.groupJoin a cls) s = .error .groupFull := by
  have hfull : Config.maxGroups ≤ s.groups.length := h
  rw [commitItem, joinGroup, hf]
  dsimp only
  rw [if_pos hfull]
  rfl

theorem commitItem_join_of_room (hf : findGroup s.groups a = none) (h : s.groups.length < 64) :
    commitItem m (.groupJoin a cls) s =
      .ok ({ s with groups := tabPut s.groups (tabFree s.groups) ⟨a, cls, soleOwner m⟩ }, false) := by
  have hroom : ¬ Config.maxGroups ≤ s.groups.length := not_le.2 h
  rw [commitItem, joinGroup, hf]
  dsimp only
  rw [if_neg hroom]
  rfl

theorem commitItem_join_of_entry (hf : findGroup s.groups a = some (i, e)) : commitItem m (.groupJoin a cls) s =
    if e.cls ≠ cls then .error .classConflict
    else .ok ({ s with groups := tabPut s.groups i { e with members := e.members.set m true } }, false) := by
  rw [commitItem, joinGroup, hf]
  dsimp only
  split <;> rfl

theorem commitItem_leave_of_free (hf : findGroup s.groups a = none) :
    commitItem m (.groupLeave a) s = .ok (s, false) := by
  rw [commitItem, leaveGroup, hf]

theorem commitItem_leave_of_entry (hf : findGroup s.groups a = some (i, e)) : commitItem m (.groupLeave a) s =
    .ok (if e.members.get (otherMaster m) = true then
        { s with groups := tabPut s.groups i { e with members := e.members.set m false } }
      else { s with groups := tabErase s.groups i }, false) := by
  rw [commitItem, leaveGroup, hf]
  dsimp only
  rw [if_congr set_false_some_iff rfl rfl]

end

/-- Settles O57: who holds the address decides first, then the thresholds, the reference link and the room. -/
theorem itemsAreJudgedByOwnership : Obligations.ItemsAreJudgedByOwnership := by
  intro m a f s g put del share rises mine settings told foreign
  have hrises : rises ↔ thresholdsRise f.clamped.t1 f.clamped.t2 f.clamped.t3 = true := (thresholdsRise_iff ..).symm
  refine ⟨fun hmine hfall => ?_, fun hmine hr href => ?_, fun hf => ?_, fun i r hf => ?_, fun cls => ?_⟩
  · exact commitItem_put_error (putOrigin_of_fall hmine (Bool.eq_false_of_not_eq_true (mt hrises.2 hfall)))
  · exact commitItem_put_error (putOrigin_of_no_reference hmine (hrises.1 hr) (resolveRef_eq_none href))
  · obtain ⟨hdel, hshare⟩ := commitItem_of_unowned (m := m) fun i r h => nomatch hf.symm.trans h
    refine ⟨hdel, hshare, fun x hr href => ⟨fun hfull => ?_, fun hroom hc => ?_⟩⟩
    · exact commitItem_put_error (putOrigin_of_full hf (hrises.1 hr) (resolveRef_iff.2 href) hfull)
    · intro r
      have hput := putOrigin_of_room (m := m) hf (hrises.1 hr) (resolveRef_iff.2 href) hroom
      rw [createSilent_eq, fresh_put, toldNew_eq, toldNew_eq] at hput
      have hrising := tabWf.rising hc
      refine ⟨tabFree s.origins, tabGet_tabFree hrising, fun k => tabGet_of_lt_tabFree hrising, ?_⟩
      exact ⟨commitItem_put_ok hput, tabGet_tabPut_same .., fun k hk => tabGet_tabPut_other _ _ hk.symm⟩
  · refine ⟨fun hnone => ?_, fun hsome ho => ?_, fun ho => ⟨?_, fun hother => ?_, fun hother hled => ?_,
      fun hother hfree => ?_, fun x hr href => ?_⟩⟩
    · have hl := (learned_iff r).2 hnone
      obtain ⟨hdel, hshare⟩ := commitItem_of_unowned (m := m) fun i' r' h => by cases hf.symm.trans h; exact hl
      refine ⟨hdel, hshare, fun x hr href => ⟨_, committedPipe_reconfigure _ f.reseed r, ?_⟩⟩
      exact commitItem_put_ok (putOrigin_of_learned hf hl (hrises.1 hr) (resolveRef_iff.2 href))
    · exact commitItem_of_foreign hf ((not_learned_iff r).2 hsome) ho
    · exact commitItem_share_of_own hf ho
    · exact (commitItem_delete_of_own hf ho).trans (if_pos hother)
    · have hlead := isLead_eq_true_iff.2 hled
      exact (commitItem_delete_of_own hf ho).trans (by rw [if_neg (by simp [hother]), if_pos hlead])
    · have hlead := isLead_eq_false_iff.2 hfree
      refine (commitItem_delete_of_own hf ho).trans ?_
      rw [if_neg (by simp [hother]), if_neg (by simp [hlead])]
      rfl
    · refine ⟨_, committedPipe_reconfigure _ f.reseed r, ?_⟩
      exact commitItem_put_ok (putOrigin_of_own hf ho (hrises.1 hr) (resolveRef_iff.2 href))
  · refine ⟨fun hf => ⟨commitItem_leave_of_free hf, commitItem_join_of_full hf, fun hroom hc => ?_⟩, fun i e hf =>
      ⟨fun hcls => ?_, fun hcls => ?_, fun hother => ?_, fun hother => ?_⟩⟩
    · have hrising := tabWf.rising hc
      exact ⟨tabFree s.groups, tabFree_lt hrising hroom, tabGet_tabFree hrising,
        fun k => tabGet_of_lt_tabFree hrising, commitItem_join_of_room hf hroom⟩
    · exact (commitItem_join_of_entry hf).trans (if_pos hcls)
    · exact (commitItem_join_of_entry hf).trans (if_neg (not_not.2 hcls))
    · exact (commitItem_leave_of_entry hf).trans (by rw [if_pos hother])
    · exact (commitItem_leave_of_entry hf).trans (by rw [if_neg (by simp [hother])])

end Sys2Proof.Machine
end

section
/-! SUPPORT. What a taken command does (R14, R161): it leaves its link an answer, and where its status is not OK nothing
but that answer has changed. Every command completes, and none changes the part's identity or the queue. -/

namespace Sys2Proof.Machine

/-! ## The identity and the queue -/

/-- What no command changes: the address and revision fixed at manufacture (R163), and the queue (log 26). -/
structure Identity where
  station  : Addr
  revision : Byte
  pending  : List Instr

def State.identity (s : State) : Identity := ⟨s.station, s.revision, s.pending⟩

theorem ite_identity {s t u : State} {p : Prop} [Decidable p] (ht : t.identity = s.identity)
    (hu : u.identity = s.identity) : (if p then t else u).identity = s.identity := by split <;> assumption

/-! ## Answers -/

/-- What a taken command of link `m` makes of the state: it answers with whatever status and has done nothing else, or
it answers OK to what it has done. -/
inductive Answered (m : Master) (s : State) : State → Prop
  | unchanged (st : Status) (results : List Byte) : Answered m s (reply m st results s)
  | done {u : State} (results : List Byte) (h : u.identity = s.identity) : Answered m s (reply m .ok results u)

namespace Answered
variable {m : Master} {s t : State}

theorem identity (h : Answered m s t) : t.identity = s.identity := by
  cases h with
  | unchanged st results => rfl
  | done results hu => exact hu

theorem answer (h : Answered m s t) : ∃ x, (t.links.get m).answer = some x ∧
    (x.status ≠ .ok → x.results = [] ∧
      t = s.setLink m { s.links.get m with framing := .answering, answer := some ⟨x.status, []⟩ }) := by
  cases h with
  | unchanged st results =>
    refine ⟨⟨st, if st = .ok then results else []⟩, by rw [reply_links, PerMaster.get_set], fun hst => ?_⟩
    have hnone : (if st = .ok then results else []) = [] := if_neg hst
    exact ⟨hnone, by rw [reply, hnone]; rfl⟩
  | done results hu => exact ⟨⟨.ok, results⟩, by rw [reply_links, PerMaster.get_set]; rfl, fun hst => absurd rfl hst⟩

end Answered

/-! ## The commands of a link -/

section
variable (s : State)

/-- A command with a fixed argument length goes through the order of R161, and its own part answers. -/
theorem exec_fixedLength {c : Instr} {m : Master} {x : Args} {n : Nat} (hm : c.link = some m) (hx : c.args = some x)
    (hn : c.fixedLength = some n) :
    ∃ own, exec c s = .next (takeFixed m n x s own) ∧ ∀ bytes, Answered m s (own bytes) := by
  cases c with
  | identify _ _ | readTime _ _ | findOrigin _ _ | readApplyResult _ _ | readEvents _ _ =>
    cases hm; cases hx; cases hn
    exact ⟨_, rfl, fun _ => .unchanged _ _⟩
  | ackEvents _ _ | setEventMask _ _ | readChanges _ _ | ackRestart _ _ =>
    cases hm; cases hx; cases hn
    exact ⟨_, rfl, fun _ => .done _ rfl⟩
  | readGroup _ _ | readPort _ _ =>
    cases hm; cases hx; cases hn
    refine ⟨_, rfl, fun bytes => ?_⟩
    split <;> exact .unchanged _ _
  | readOrigin _ _ =>
    cases hm; cases hx; cases hn
    refine ⟨_, rfl, fun bytes => ?_⟩
    split
    · exact .unchanged _ _
    · split <;> exact .unchanged _ _
  | discardStaging _ _ | apply _ _ | restart _ _ | selectStartSet _ _ =>
    cases hm; cases hx; cases hn
    refine ⟨_, rfl, fun bytes => ?_⟩
    split
    · exact .unchanged _ _
    · exact .done _ rfl
  | saveSet _ _ =>
    cases hm; cases hx; cases hn
    refine ⟨_, rfl, fun bytes => ?_⟩
    dsimp only
    split
    · exact .unchanged _ _
    · split
      · exact .unchanged _ _
      · split
        · exact .done _ rfl
        · next u _ => exact .done _ (by cases u <;> rfl)
  | _ => cases hn

theorem stageEffect_answered (m : Master) (x : Args) : Answered m s (stageEffect m x s) :=
  takeCommand_keeps (I := Answered m s) (fun st => .unchanged st []) fun bytes => by
    split
    · exact .unchanged _ _
    · split
      · exact .unchanged _ _
      · split
        · exact .unchanged _ _
        · exact .done _ rfl

/-- Every taken command is answered. -/
theorem exec_answered {c : Instr} {m : Master} (hm : c.link = some m) (hb : c.commandByte ≠ none) :
    ∃ t, exec c s = .next t ∧ Answered m s t := by
  have fixed {x : Args} {n : Nat} (hx : c.args = some x) (hn : c.fixedLength = some n) :
      ∃ t, exec c s = .next t ∧ Answered m s t := by
    obtain ⟨own, hexec, hown⟩ := exec_fixedLength s hm hx hn
    exact ⟨_, hexec, takeFixed_keeps (I := Answered m s) (fun st => .unchanged st []) hown⟩
  cases c with
  | unknownCommand _ _ _ => cases hm; exact ⟨_, rfl, .unchanged _ _⟩
  | stage _ x => cases hm; exact ⟨_, rfl, stageEffect_answered s m x⟩
  | identify _ _ | readOrigin _ _ | findOrigin _ _ | readGroup _ _ | readPort _ _ | readTime _ _ | discardStaging _ _
  | apply _ _ | readApplyResult _ _ | readEvents _ _ | ackEvents _ _ | setEventMask _ _ | readChanges _ _
  | ackRestart _ _ | saveSet _ _ | selectStartSet _ _ | restart _ _ => exact fixed rfl rfl
  | _ => exact absurd rfl hb

end

end Sys2Proof.Machine
end

section
/-! SUPPORT. Every command completes, and none changes the identity of the part or the queue (R163, log 25, log 26). -/

namespace Sys2Proof.Machine

section
variable (s : State)

/-! ## Shared operations -/

theorem endEvent_identity (cause : Bool) (before : Level) (i : Nat) :
    (endEvent cause before i s).identity = s.identity := by
  obtain ⟨o, k, e⟩ := endEvent_frame s cause before i
  rw [e]
  rfl

theorem announce_identity : (announce s).identity = s.identity := by
  obtain ⟨n, q, e⟩ := announce_frame s
  rw [e]
  rfl

theorem enterProbing_identity (l : Lane) : (enterProbing l s).identity = s.identity := by
  obtain ⟨n, o, k, e⟩ := enterProbing_frame s l
  rw [e]
  rfl

theorem lineUp_identity (l : Lane) : (lineUp l s).identity = s.identity := by
  obtain ⟨n, o, k, e⟩ := lineUp_frame s l
  rw [e]
  rfl

/-! ## Frames, ports and timers -/

theorem lineFrameEffect_identity (l : Lane) (f : RxFrame) : (lineFrameEffect l f s).identity = s.identity := by
  obtain ⟨n, b, q, o, a, h, k, e⟩ := lineFrameEffect_frame s l f
  rw [e]
  rfl

theorem bayFrameEffect_identity (m : Master) (f : RxFrame) : (bayFrameEffect m f s).identity = s.identity := by
  obtain ⟨n, b, a, h, k, e⟩ := bayFrameEffect_frame s m f
  rw [e]
  rfl

theorem bayTransmitEffect_identity (m : Master) : (bayTransmitEffect m s).identity = s.identity := ite_identity rfl rfl

theorem pairExpiryEffect_identity (i : Nat) : (pairExpiryEffect i s).identity = s.identity := by
  unfold pairExpiryEffect
  split
  · rfl
  · split
    · rfl
    · exact endEvent_identity _ _ _ i

theorem silenceExpiryEffect_identity (i : Nat) : (silenceExpiryEffect i s).identity = s.identity := by
  unfold silenceExpiryEffect
  split
  · rfl
  · exact ite_identity rfl (endEvent_identity _ _ _ i)

theorem forgetExpiryEffect_identity (i : Nat) : (forgetExpiryEffect i s).identity = s.identity := by
  unfold forgetExpiryEffect
  split
  · rfl
  · exact ite_identity rfl rfl

theorem holdExpiryEffect_identity (i : Nat) : (holdExpiryEffect i s).identity = s.identity := by
  unfold holdExpiryEffect
  split
  · rfl
  · exact ite_identity rfl (endEvent_identity _ _ _ i)

/-! ## The taking of an apply and the end of a save -/

theorem takeApply_identity (m : Master) : (takeApply m s).identity = s.identity := by
  obtain ⟨o, q, g, gl, bc, k, st, e⟩ := takeApply_frame s m
  rw [e]
  rfl

theorem saveCompletionEffect_identity (verified : Bool) :
    (saveCompletionEffect verified s).identity = s.identity := by
  unfold saveCompletionEffect
  split
  · rfl
  · next r _ =>
    cases verified with
    | false => rfl
    | true => cases r.slot <;> rfl

/-! ## Start-up (R174, R175) -/

theorem loadStart_identity : (loadStart (clearRuntime s)).identity = s.identity := by
  unfold loadStart
  dsimp only
  split
  · rfl
  · exact ite_identity rfl rfl

theorem readPhys_identity (phys : Phys) : (readPhys phys s).identity = s.identity := by
  have line (b : Bool) (l : Lane) (s : State) : (if b then lineUp l s else s).identity = s.identity :=
    ite_identity (lineUp_identity s l) rfl
  have bay (b : Bool) (m : Master) (s : State) : (if b then bayUpEffect m s else s).identity = s.identity :=
    ite_identity rfl rfl
  unfold readPhys
  rw [bay, bay, line, line]

/-- A start clears the runtime state and not the identity or the queue (log 26). -/
theorem startUp_identity (phys : Phys) : (startUp phys s).identity = s.identity := by
  have quiet (s : State) : (startQuiet s).identity = s.identity := ite_identity (announce_identity s) rfl
  unfold startUp
  rw [quiet, readPhys_identity]
  exact loadStart_identity s

/-! ## Every command -/

/-- Every command completes, and the identity and the queue stay. -/
theorem exec_identity (c : Instr) : ∃ t, exec c s = .next t ∧ t.identity = s.identity := by
  have taken {m : Master} (hm : c.link = some m) (hb : c.commandByte ≠ none) :
      ∃ t, exec c s = .next t ∧ t.identity = s.identity :=
    (exec_answered s hm hb).imp fun _ h => h.imp_right Answered.identity
  cases c with
  | powerOn p | resetPin p => exact ⟨_, rfl, startUp_identity _ p⟩
  | restartTakesEffect p => exact ⟨_, rfl, ite_identity (startUp_identity _ p) rfl⟩
  | startQuietEnd => exact ⟨_, rfl, ite_identity rfl (announce_identity _)⟩
  | rollCallTimerExpiry => exact ⟨_, rfl, ite_identity rfl (announce_identity s)⟩
  | lineFrameReceive l f => exact ⟨_, rfl, lineFrameEffect_identity s l f⟩
  | bayFrameReceive m f => exact ⟨_, rfl, bayFrameEffect_identity s m f⟩
  | lineLinkUp l => exact ⟨_, rfl, ite_identity (lineUp_identity s l) rfl⟩
  | settleExpiry l => exact ⟨_, rfl, ite_identity (enterProbing_identity s l) rfl⟩
  | lineLinkLoss l => exact ⟨_, rfl, ite_identity rfl (ite_identity rfl rfl)⟩
  | bayLinkUp _ | lineTransmitDone _ | bayTransmitDone _ | secondsTick => exact ⟨_, rfl, rfl⟩
  | bayLinkDown _ | glitch _ | linkFailExpiry _ | probeLimitExpiry _ | lineTransmitStart _ | alertHoldExpiry
  | cutTransaction _ _ => exact ⟨_, rfl, ite_identity rfl rfl⟩
  | bayTransmitStart m => exact ⟨_, rfl, bayTransmitEffect_identity s m⟩
  | pacingTimerExpiry m => exact ⟨_, rfl, ite_identity rfl (ite_identity (bayTransmitEffect_identity _ m) rfl)⟩
  | pairExpiry i => exact ⟨_, rfl, pairExpiryEffect_identity s i⟩
  | silenceExpiry i => exact ⟨_, rfl, silenceExpiryEffect_identity s i⟩
  | forgetExpiry i => exact ⟨_, rfl, forgetExpiryEffect_identity s i⟩
  | holdExpiry i => exact ⟨_, rfl, holdExpiryEffect_identity s i⟩
  | applyTaken =>
    exact ⟨_, rfl, ite_identity (takeApply_identity s .m1) (ite_identity (takeApply_identity s .m2) rfl)⟩
  | saveCompletion v => exact ⟨_, rfl, saveCompletionEffect_identity s v⟩
  | _ => exact taken rfl (Option.some_ne_none _)

end

/-- Settles O3: a taken command by its answer, and every other command by its effect. -/
theorem everyCommandCompletesKeepingIdentityAndQueue :
    Obligations.EveryCommandCompletesKeepingIdentityAndQueue := by
  intro c s
  obtain ⟨t, hexec, ht⟩ := exec_identity s c
  exact ⟨t, hexec, Identity.mk.inj ht⟩

end Sys2Proof.Machine
end

section
/-! SUPPORT. The bytes of one select period and the command they come to (R14, R15, R160), the bytes a link drives, and
the order in which a command is refused (R161). -/

namespace Sys2Proof.Machine

/-! ## The bytes received (R14, R160) -/

section
variable {m : Master}

theorem periodRow_of_taken {code : Byte} {x : Args} {bytes : List Byte}
    (h : Framing.idle.run bytes = (.answering, some (code, x))) : periodRow m bytes = some (commandRow m code x) := by
  rw [periodRow, h]

theorem Framing.run_idle_overlong {n : Byte} (h : 64 < n.toNat) (code : Byte) (rest : List Byte) :
    Framing.idle.run (code :: n :: rest) = (.answering, some (code, .overlong n)) := by
  have hn : Config.maxArgs < n.toNat := h
  simp [Framing.run, Framing.receive, hn]

/-- A command byte and a length byte of 1 to 64 leave the framing receiving that many arguments. -/
theorem Framing.run_idle_header {n : Byte} (h : n.toNat ≤ 64) (h0 : n.toNat ≠ 0) (code : Byte) (rest : List Byte) :
    Framing.idle.run (code :: n :: rest) = (Framing.receiving code n.toNat []).run rest := by
  have hn : ¬ Config.maxArgs < n.toNat := not_lt.2 h
  simp [Framing.run, Framing.receive, hn, h0]

theorem Framing.run_idle_taken {n : Byte} (h : n.toNat ≤ 64) (code : Byte) {rest : List Byte}
    (hr : n.toNat ≤ rest.length) :
    Framing.idle.run (code :: n :: rest) = (.answering, some (code, .taken (rest.take n.toNat))) := by
  by_cases h0 : n.toNat = 0
  · simp [Framing.run, Framing.receive, h0]
  · rw [Framing.run_idle_header h h0, Framing.run_receiving_full code rest [] n.toNat (by omega) hr, List.nil_append]

/-- A cut period ends with its framing neither idle nor its command taken. -/
theorem periodRow_of_cut {bytes : List Byte} (h : isCut bytes = true) :
    periodRow m bytes = some (.cutTransaction m bytes) := by
  match bytes with
  | [] => cases h
  | [_] => rfl
  | code :: n :: args =>
    obtain ⟨hn, hshort⟩ : n.toNat ≤ Config.maxArgs ∧ args.length < n.toNat := by simpa [isCut] using h
    rw [periodRow, Framing.run_idle_header hn (Nat.ne_zero_of_lt hshort),
      Framing.run_receiving_short code args [] _ hshort]

end

/-! ## The row of a command byte (R15) -/

section
variable (m : Master) (x : Args)

/-- A row is of its link, its command byte and its arguments. -/
theorem commandRow_operands (code : Byte) : (commandRow m code x).link = some m ∧
    (commandRow m code x).commandByte = some code ∧ (commandRow m code x).args = some x := by
  have byte {b : Byte} (h : code.toNat = b.toNat) : some b = some code := congrArg some (BitVec.eq_of_toNat_eq h).symm
  unfold commandRow
  split
  iterate 18 next h => exact ⟨rfl, byte h, rfl⟩
  exact ⟨rfl, rfl, rfl⟩

theorem commandRow_unknown {code : Byte} (h : code.toNat = 0 ∨ 18 < code.toNat) :
    commandRow m code x = .unknownCommand m code x := by
  unfold commandRow
  split
  iterate 18 next hcode => omega
  rfl

/-- A command that can occur is the row of its own byte. -/
theorem commandRow_eq {i : Instr} {code : Byte} (hm : i.link = some m) (hb : i.commandByte = some code)
    (hx : i.args = some x) (hw : i.wf = true) : commandRow m code x = i := by
  cases i with
  | unknownCommand _ _ _ =>
    cases hm; cases hb; cases hx
    have hunknown : knownCommand code = false := by simpa [Instr.wf] using (Bool.and_eq_true_iff.1 hw).2
    refine commandRow_unknown m x ?_
    simp only [knownCommand, Bool.and_eq_false_iff, decide_eq_false_iff_not] at hunknown
    omega
  | identify _ _ | readOrigin _ _ | findOrigin _ _ | readGroup _ _ | readPort _ _ | readTime _ _ | stage _ _
  | discardStaging _ _ | apply _ _ | readApplyResult _ _ | readEvents _ _ | ackEvents _ _ | setEventMask _ _
  | readChanges _ _ | ackRestart _ _ | saveSet _ _ | selectStartSet _ _ | restart _ _ =>
    cases hm; cases hb; cases hx
    rfl
  | _ => cases hb

end

/-! ## The bytes driven (R14) -/

namespace ControlLink
variable {c : ControlLink}

theorem drives_of_not_answering (h : c.framing ≠ .answering) (k : Nat) : c.drives k = 0xFF#8 := by
  unfold drives
  split
  · next ha => exact absurd ha h
  · rfl
  · rfl
  · rfl

theorem drives_of_answering {x : Answer} (hf : c.framing = .answering) (ha : c.answer = some x) (k : Nat) :
    c.drives k = (x.bytes[k]?).getD 0xFF#8 := by
  rw [drives, hf, ha]
  rfl

end ControlLink

/-! ## The order of R161 -/

section
variable {m : Master} {n : Nat} {bs : List Byte} {s : State}

theorem takeFixed_overlong (k : Byte) (own : List Byte → State) :
    takeFixed m n (.overlong k) s own = reply m .badLength [] s := rfl

theorem takeFixed_unready (own : List Byte → State) (hl : bs.length ≤ 64) (hr : s.ready = false) :
    takeFixed m n (.taken bs) s own = reply m .busy [] s := takeCommand_unready _ hl hr

theorem takeFixed_other_length (own : List Byte → State) (hl : bs.length ≤ 64) (hr : s.ready = true)
    (hn : bs.length ≠ n) : takeFixed m n (.taken bs) s own = reply m .badLength [] s :=
  (takeCommand_ready _ hl hr).trans (if_pos hn)

end

/-- Settles O6: the framing by the length byte, the bytes driven by the bytes of the answer, and a taken command by what
it answers. -/
theorem answerOtherThanOkHasNoEffect : Obligations.AnswerOtherThanOkHasNoEffect := by
  refine ⟨rfl, fun m bytes => ⟨?_, periodRow_of_cut, ?_⟩, fun m code x => ?_, fun c =>
    ⟨ControlLink.drives_of_not_answering, fun x hf ha => ?_⟩, fun c m s t hm hb h => ?_, fun c m x n s hm hx hn => ?_⟩
  · rintro rfl
    rfl
  · rintro code n rest rfl
    exact ⟨fun h => periodRow_of_taken (Framing.run_idle_overlong h code rest),
      fun h hr => periodRow_of_taken (Framing.run_idle_taken h code hr)⟩
  · obtain ⟨hlink, hbyte, hargs⟩ := commandRow_operands m x code
    exact ⟨hlink, hbyte, hargs, commandRow_unknown m x, fun i => commandRow_eq m x⟩
  · have hbytes (j : Nat) : x.bytes[4 + j]? = x.results[j]? := by
      rw [Nat.add_comm]
      rfl
    simp only [ControlLink.drives_of_answering hf ha]
    refine ⟨rfl, rfl, rfl, rfl, fun j b hj => by rw [hbytes, hj]; rfl, fun k hk => ?_⟩
    obtain ⟨j, rfl⟩ := Nat.exists_eq_add_of_le hk
    rw [Nat.add_assoc, hbytes, List.getElem?_eq_none (Nat.le_add_right _ _)]
    rfl
  · obtain ⟨t', hexec, ht⟩ := exec_answered s hm hb
    cases hexec.symm.trans h
    exact ht.answer
  · intro refused
    obtain ⟨own, hexec, -⟩ := exec_fixedLength s hm hx hn
    have answered (st : Status) (h : takeFixed m n x s own = reply m st [] s) : exec c s = refused st := by
      rw [hexec, h, reply_without_results]
    refine ⟨?_, ?_, ?_⟩
    · rintro k rfl
      exact answered _ (takeFixed_overlong k own)
    · rintro bs rfl hl hr
      exact answered _ (takeFixed_unready own hl hr)
    · rintro bs rfl hl hr hne
      exact answered _ (takeFixed_other_length own hl hr hne)

end Sys2Proof.Machine
end

section
/-! SUPPORT. Reading commands (R162, R163, R165, R168 to R170): result fields as bytes, the argument bytes, and one
equation for each command on a ready part. -/

namespace Sys2Proof.Machine

/-! ## Fields and arguments (R162) -/

theorem byteField_eq (n : Nat) : byteField n = [BitVec.ofNat 8 n] := rfl

theorem byteField_toNat (b : Byte) : byteField b.toNat = [b] := by
  rw [byteField_eq, BitVec.ofNat_toNat, BitVec.setWidth_eq]

theorem flagField_eq (b : Bool) : flagField b = [if b then 1#8 else 0#8] := by cases b <;> rfl

theorem numAt_second (b c : Byte) : numAt [b, c] 1 1 = c.toNat := numAt_head c []

theorem numAt_pair (b c : Byte) : numAt [b, c] 0 2 = b.toNat * 256 + c.toNat := by
  have hall : numAt [b, c] 0 2 = beNat [b, c] := rfl
  rw [hall, beNat_cons, beNat_singleton]
  rfl

/-! ## Answers with results -/

/-- An answer after a change of its own link. -/
theorem reply_ok_onLink (m : Master) (r : List Byte) (f : ControlLink → ControlLink) (s : State) :
    reply m .ok r (s.onLink m f) =
      s.setLink m { f (s.links.get m) with framing := .answering, answer := some ⟨.ok, r⟩ } := by
  cases m <;> rfl

/-! ## Identity, time and look-ups (R163, R165, R159) -/

section
variable {m : Master} {s : State}

theorem identifyEffect_of_ready (hr : s.ready = true) :
    identifyEffect m (.taken []) s = reply m .ok (identifyResults m s) s := takeFixed_own s m _ rfl (by decide) hr

theorem readTimeEffect_of_ready (hr : s.ready = true) :
    readTimeEffect m (.taken []) s = reply m .ok (timeResults s) s := takeFixed_own s m _ rfl (by decide) hr

theorem findOriginEffect_of_ready {bs : List Byte} (hl : bs.length = 6) (hr : s.ready = true) :
    findOriginEffect m (.taken bs) s = reply m .ok (findResults (addrAt bs 0) s) s :=
  takeFixed_own s m _ hl (by decide) hr

theorem readGroupEffect_of_ready (b : Byte) (hr : s.ready = true) : readGroupEffect m (.taken [b]) s =
    if 63 < b.toNat then reply m .badIndex [] s else reply m .ok (groupResults b.toNat s) s := by
  have hslot : numAt [b] 0 1 = b.toNat := numAt_head b []
  have hown := takeFixed_own s m (fun bytes =>
    if Config.maxGroups ≤ numAt bytes 0 1 then reply m .badIndex [] s
    else reply m .ok (groupResults (numAt bytes 0 1) s) s) (bytes := [b]) (n := 1) rfl (by decide) hr
  rw [hslot] at hown
  exact hown

theorem readApplyEffect_of_ready (hr : s.ready = true) : readApplyEffect m (.taken []) s =
    reply m .ok (flagField (s.applyPending.get m) ++ (s.applyResult.get m).fields) s :=
  takeFixed_own s m _ rfl (by decide) hr

theorem identifyResults_eq (m : Master) (s : State) : identifyResults m s =
    [0x04#8, 0x20#8, s.revision, BitVec.ofNat 8 (linkNumber m)] ++ beBytes 6 s.station.toNat ++
      beBytes 4 (s.links.get m).cut.toNat := by
  rw [identifyResults, byteField_toNat]
  rfl

theorem groupResults_of_free {slot : Nat} (h : tabGet s.groups slot = none) :
    groupResults slot s = List.replicate 10 0#8 := by
  rw [groupResults, h]
  rfl

theorem groupResults_of_entry {slot : Nat} {g : Group} (h : tabGet s.groups slot = some g) : groupResults slot s =
    [1#8] ++ beBytes 6 g.addr.toNat ++ [BitVec.ofNat 8 g.cls.position, if g.members.one then 1#8 else 0#8,
      if g.members.two then 1#8 else 0#8] := by
  rw [groupResults, h]
  dsimp only
  rw [flagField_eq g.members.one, flagField_eq g.members.two, List.append_assoc, List.append_assoc]
  rfl

end

/-- Settles O51, field by field. -/
theorem identityTimeAndLookupsAnswer : Obligations.IdentityTimeAndLookupsAnswer := by
  refine ⟨⟨rfl, rfl⟩, ?_⟩
  intro m s hr k ans c4
  refine ⟨?_, ?_, fun bs hl => ?_, fun b => ?_, ?_⟩
  · refine congrArg _ ((identifyEffect_of_ready hr).trans ?_)
    rw [identifyResults_eq]
    cases m <;> rfl
  · exact congrArg _ (readTimeEffect_of_ready hr)
  · refine (congrArg _ (findOriginEffect_of_ready hl hr)).trans ?_
    rw [findResults]
    cases findOrigin s (addrAt bs 0) <;> rfl
  · refine (congrArg _ (readGroupEffect_of_ready b hr)).trans ?_
    split
    · rfl
    · cases hg : tabGet s.groups b.toNat with
      | none => rw [groupResults_of_free hg]; rfl
      | some g => rw [groupResults_of_entry hg]; rfl
  · refine congrArg _ ((readApplyEffect_of_ready hr).trans ?_)
    rw [flagField_eq]
    cases s.applyResult.get m <;> rfl

/-! ## Events and change sets (R168 to R170) -/

theorem getLsbD_allKinds (n : Nat) : allKinds.getLsbD n = decide (n < 11) := Nat.testBit_two_pow_sub_one 11 n

/-- Attention is one of the eleven flags set and not masked (R169). -/
theorem attention_iff (c : ControlLink) :
    c.attention = (List.range 11).any fun n => c.flags.getLsbD n && !c.mask.getLsbD n := by
  have hbit (n : Nat) : (c.flags &&& ~~~c.mask &&& allKinds).getLsbD n =
      (decide (n < 11) && (c.flags.getLsbD n && !c.mask.getLsbD n)) := by
    rw [BitVec.getLsbD_and, BitVec.getLsbD_and, BitVec.getLsbD_not, getLsbD_allKinds]
    by_cases hn : n < 11
    · have h16 : n < 16 := by omega
      simp [hn, h16]
    · simp [hn]
  rw [Bool.eq_iff_iff, ControlLink.attention, bne_iff_ne, ne_eq, List.any_eq_true]
  constructor
  · intro hne
    obtain ⟨n, hn⟩ : ∃ n, (c.flags &&& ~~~c.mask &&& allKinds).getLsbD n = true := by
      by_contra hall
      exact hne (BitVec.eq_of_getLsbD_eq fun n _ => by
        rw [Bool.eq_false_of_not_eq_true fun h => hall ⟨n, h⟩]
        exact BitVec.getLsbD_zero.symm)
    rw [hbit, Bool.and_eq_true, decide_eq_true_eq] at hn
    exact ⟨n, List.mem_range.2 hn.1, hn.2⟩
  · rintro ⟨n, hn, hset⟩ hzero
    have hclear := hbit n
    rw [hzero, hset, decide_eq_true (List.mem_range.1 hn)] at hclear
    cases hclear.symm.trans BitVec.getLsbD_zero

theorem flatMap_byteField (l : List Nat) : l.flatMap byteField = l.map fun i => BitVec.ofNat 8 i :=
  (List.map_eq_flatMap ..).symm

theorem changeResults_eq (l : List Nat) : changeResults l =
    [BitVec.ofNat 8 (min 16 l.length)] ++ beBytes 2 (l.length - 16) ++
      (l.take 16).map fun i => BitVec.ofNat 8 i := by
  have hleft : l.length - min 16 l.length = l.length - 16 := by omega
  have hmax : Config.maxChangesRead = 16 := rfl
  simp only [changeResults, hmax]
  rw [List.length_take, hleft, flatMap_byteField]
  rfl

section
variable {m : Master} {s : State}

theorem readEventsEffect_of_ready (hr : s.ready = true) :
    readEventsEffect m (.taken []) s = reply m .ok (eventResults (s.links.get m)) s :=
  takeFixed_own s m _ rfl (by decide) hr

theorem ackEventsEffect_of_ready {bs : List Byte} (hl : bs.length = 2) (hr : s.ready = true) :
    ackEventsEffect m (.taken bs) s =
      reply m .ok (wordField ((s.onLink m (.ack (eventSetOf bs))).links.get m).flags.toNat)
        (s.onLink m (.ack (eventSetOf bs))) := takeFixed_own s m _ hl (by decide) hr

theorem ackRestartEffect_of_ready (hr : s.ready = true) :
    ackRestartEffect m (.taken []) s = reply m .ok [] (s.onLink m .ackRestartSeen) :=
  takeFixed_own s m _ rfl (by decide) hr

theorem setMaskEffect_of_ready {bs : List Byte} (hl : bs.length = 2) (hr : s.ready = true) :
    setMaskEffect m (.taken bs) s =
      reply m .ok [] (s.onLink m fun c => { c with mask := eventSetOf bs &&& allKinds }) :=
  takeFixed_own s m _ hl (by decide) hr

theorem readChangesEffect_of_ready (hr : s.ready = true) : readChangesEffect m (.taken []) s =
    reply m .ok (changeResults (s.links.get m).changes)
      (s.onLink m fun c => { c with changes := c.changes.drop Config.maxChangesRead }) :=
  takeFixed_own s m _ rfl (by decide) hr

theorem eventSetOf_pair (b1 b0 : Byte) : eventSetOf [b1, b0] = BitVec.ofNat 16 (b1.toNat * 256 + b0.toNat) := by
  rw [eventSetOf, numAt_pair]

end

/-- Settles O53: each command by what it does to its own link and what it answers. -/
theorem eventFlagsMaskAndChangesAnswer : Obligations.EventFlagsMaskAndChangesAnswer := by
  refine ⟨rfl, ?_⟩
  intro m s hr k ans named
  refine ⟨?_, fun b1 b0 => ?_, ?_, fun b1 b0 => ?_, ?_⟩
  · refine congrArg _ ((readEventsEffect_of_ready hr).trans ?_)
    rw [eventResults, flagField_eq, attention_iff]
    rfl
  · refine congrArg _ ((ackEventsEffect_of_ready rfl hr).trans ?_)
    rw [reply_ok_onLink, onLink_links, PerMaster.get_set, eventSetOf_pair]
    rfl
  · exact congrArg _ ((ackRestartEffect_of_ready hr).trans (reply_ok_onLink ..))
  · refine congrArg _ ((setMaskEffect_of_ready rfl hr).trans ?_)
    rw [reply_ok_onLink, eventSetOf_pair]
    rfl
  · refine congrArg _ ((readChangesEffect_of_ready hr).trans ?_)
    rw [reply_ok_onLink, changeResults_eq]
    rfl

end Sys2Proof.Machine
end

section
/-! SUPPORT. READ ORIGIN and READ PORT (R164, R166): the parts by their numbers, their lengths, the fields that may be
absent, and the place of a delivered bit. -/

namespace Sys2Proof.Machine

/-! ## READ ORIGIN (R164) -/

section
variable {m : Master} {i part : Byte} {s : State}

theorem takeFixed_pair (own : List Byte → State) (hr : s.ready = true) :
    takeFixed m 2 (.taken [i, part]) s own = own [i, part] := takeFixed_own s m own rfl (by decide) hr

theorem readOriginEffect_of_no_part (hr : s.ready = true) (hp : 6 < part.toNat) :
    readOriginEffect m (.taken [i, part]) s = reply m .badIndex [] s := by
  rw [readOriginEffect, takeFixed_pair _ hr, numAt_second, if_pos hp]

theorem readOriginEffect_of_free (hr : s.ready = true) (hp : part.toNat ≤ 6) (ho : originAt s i.toNat = none) :
    readOriginEffect m (.taken [i, part]) s = reply m .ok (flagField false) s := by
  rw [readOriginEffect, takeFixed_pair _ hr, numAt_second, numAt_head, if_neg (not_lt.2 hp), ho]

theorem readOriginEffect_of_record {r : Origin} {bs : List Byte} (hr : s.ready = true) (hp : part.toNat ≤ 6)
    (ho : originAt s i.toNat = some r) (hbs : originPart r part.toNat = some bs) :
    readOriginEffect m (.taken [i, part]) s = reply m .ok (flagField true ++ bs) s := by
  rw [readOriginEffect, takeFixed_pair _ hr, numAt_second, numAt_head, if_neg (not_lt.2 hp), ho]
  dsimp only
  rw [hbs]
  rfl

end

/-- The parts of a record in the order of their numbers. -/
def originParts (r : Origin) : List (List Byte) :=
  [settingsPart r, windowPart r, pairsPart r, lanePart r, pipelinePart r, countersPart r, notificationPart r]

theorem getElem?_originParts (r : Origin) : ∀ n, (originParts r)[n]? = originPart r n
  | 0 | 1 | 2 | 3 | 4 | 5 | 6 => rfl
  | _ + 7 => rfl

/-- Each part number up to 6 names a part, with the length R164 gives it and its present flag. -/
theorem originPart_exists {n : Nat} (h : n ≤ 6) (r : Origin) : ∃ bs, originPart r n = some bs ∧
    [38, 14, 5 + 7 * r.win.pairs.length, 19, 20, 49, 4][n]? = some (bs.length + 1) := by
  match n, h with
  | 0, _ => exact ⟨_, rfl, by rw [length_settingsPart]; rfl⟩
  | 1, _ => exact ⟨_, rfl, by rw [length_windowPart]; rfl⟩
  | 2, _ => exact ⟨_, rfl, by rw [length_pairsPart, Nat.add_right_comm]; rfl⟩
  | 3, _ => exact ⟨_, rfl, by rw [length_lanePart]; rfl⟩
  | 4, _ => exact ⟨_, rfl, by rw [length_pipelinePart]; rfl⟩
  | 5, _ => exact ⟨_, rfl, by rw [length_countersPart]; rfl⟩
  | 6, _ => exact ⟨_, rfl, by rw [length_notificationPart]; rfl⟩

/-- The byte of weight `256 ^ j` of a number stands `j` places before the last. -/
theorem getElem?_beBytes (v : Nat) : ∀ {k j : Nat}, j < k →
    (beBytes k v)[k - 1 - j]? = some (BitVec.ofNat 8 (v >>> (8 * j)))
  | k + 1, j, h => by
    rw [beBytes, Nat.add_sub_cancel]
    obtain rfl | hlt := Nat.eq_or_lt_of_le (Nat.le_of_lt_succ h)
    · rw [Nat.sub_self]
      rfl
    · have hplace : k - j = k - 1 - j + 1 := by omega
      rw [hplace, List.getElem?_cons_succ, getElem?_beBytes v hlt]

/-- The bit at offset `n` of the delivered set stands at bit `n mod 8` of the eighth byte from its end less `n / 8`. -/
theorem windowPart_delivered (r : Origin) {n : Nat} (h : n < 64) : ∃ b : Byte,
    (windowPart r)[3 + (7 - n / 8)]? = some b ∧ b.getLsbD (n % 8) = r.win.delivered.getLsbD n := by
  have hn : 8 * (n / 8) + n % 8 = n := Nat.div_add_mod n 8
  have hbyte := getElem?_beBytes r.win.delivered.toNat (show n / 8 < 8 by omega)
  refine ⟨BitVec.ofNat 8 (r.win.delivered.toNat >>> (8 * (n / 8))), ?_, ?_⟩
  · rw [windowPart, List.append_assoc, List.append_assoc, List.getElem?_append_right (by simp),
      List.getElem?_append_left (by simp; omega)]
    simpa using hbyte
  · rw [BitVec.getLsbD_ofNat, decide_eq_true (Nat.mod_lt n (by decide)), Bool.true_and, Nat.testBit_shiftRight, hn,
      BitVec.testBit_toNat]

/-! ## READ PORT (R166) -/

section
variable {m : Master} {i part : Byte} {s : State}

theorem readPortEffect_of_no_part (hr : s.ready = true) (hp : portPart s i.toNat part.toNat = none) :
    readPortEffect m (.taken [i, part]) s = reply m .badIndex [] s := by
  rw [readPortEffect, takeFixed_pair _ hr, numAt_second, numAt_head, hp]

theorem readPortEffect_of_part {bs : List Byte} (hr : s.ready = true) (hp : portPart s i.toNat part.toNat = some bs) :
    readPortEffect m (.taken [i, part]) s = reply m .ok bs s := by
  rw [readPortEffect, takeFixed_pair _ hr, numAt_second, numAt_head, hp]

end

theorem linePart_eq_none (s : State) (l : Lane) : ∀ {part : Nat}, 2 < part → linePart s l part = none
  | _ + 3, _ => rfl

theorem bayPart_eq_none (s : State) (m : Master) : ∀ {part : Nat}, 2 < part → bayPart s m part = none
  | _ + 3, _ => rfl

theorem portPart_eq_none (s : State) {port part : Nat} (h : 3 < port ∨ 2 < part) : portPart s port part = none := by
  unfold portPart
  split
  · exact linePart_eq_none s .a (by omega)
  · exact linePart_eq_none s .b (by omega)
  · exact bayPart_eq_none s .m1 (by omega)
  · exact bayPart_eq_none s .m2 (by omega)
  · rfl

/-- The parts of each port in the order of the port and part numbers. -/
def portParts (s : State) : List (List (List Byte)) :=
  let line (p : LinePort) := [lineStatePart s p, lineCounts1 p.cnt, lineCounts2 p.cnt]
  let bay (p : BayPort) (b : BaySettings) := [bayStatePart s p b, bayCounts1 p.cnt, bayCounts2 p.cnt]
  [line s.lines.a, line s.lines.b, bay s.bays.one s.bayCfg.one, bay s.bays.two s.bayCfg.two]

theorem getElem?_portParts {s : State} {parts : List (List Byte)} (part : Nat) :
    ∀ {port : Nat}, (portParts s)[port]? = some parts → parts[part]? = portPart s port part
  | 0, rfl | 1, rfl | 2, rfl | 3, rfl => by
    match part with
    | 0 | 1 | 2 => rfl
    | _ + 3 => rfl

theorem linePart_exists (s : State) (l : Lane) {part : Nat} (h : part ≤ 2) : ∃ bs, linePart s l part = some bs ∧
    [10, 36, 32][part]? = some bs.length := by
  have hrun := length_optField (f := fun l : Lane => byteField (lanePosition l)) (fun _ => length_byteField _)
    (s.lines.get l).run.code
  match part, h with
  | 0, _ => exact ⟨_, rfl, by simp [lineStatePart, hrun]⟩
  | 1, _ => exact ⟨_, rfl, by simp [lineCounts1]⟩
  | 2, _ => exact ⟨_, rfl, by simp [lineCounts2]⟩

theorem bayPart_exists (s : State) (m : Master) {part : Nat} (h : part ≤ 2) : ∃ bs, bayPart s m part = some bs ∧
    [19, 36, 32][part]? = some bs.length := by
  have hstation := length_optField length_addrBytes (s.bays.get m).station
  match part, h with
  | 0, _ => exact ⟨_, rfl, by simp [bayStatePart, hstation]⟩
  | 1, _ => exact ⟨_, rfl, by simp [bayCounts1]⟩
  | 2, _ => exact ⟨_, rfl, by simp [bayCounts2]⟩

/-- Each port number up to 3 with a part number up to 2 names a part, with the length R166 gives it. -/
theorem portPart_exists (s : State) {port part : Nat} (hport : port ≤ 3) (hpart : part ≤ 2) :
    ∃ bs, portPart s port part = some bs ∧
      (if port ≤ 1 then [10, 36, 32] else [19, 36, 32])[part]? = some bs.length := by
  match port, hport with
  | 0, _ => exact linePart_exists s .a hpart
  | 1, _ => exact linePart_exists s .b hpart
  | 2, _ => exact bayPart_exists s .m1 hpart
  | 3, _ => exact bayPart_exists s .m2 hpart

/-! ## The statement -/

/-- Settles O52: the listed parts are those of the model, field by field, and a command answers the part it names. -/
theorem readOriginAndReadPortAnswer : Obligations.ReadOriginAndReadPortAnswer := by
  refine ⟨⟨rfl, rfl, rfl, rfl, rfl, rfl⟩, ?_⟩
  intro m i part s hr k ans n1 n2 c4 fl q3 maybe lane originFields lineFields bayFields ports
  have hflag (b : Bool) : flagField b = fl b := by cases b <;> rfl
  have hopt {α : Type} (f : α → List Byte) (width : Nat) (x : Option α) :
      optField width f x = maybe (x.map f) width := by cases x <;> rfl
  have hlane (l : Lane) : byteField (lanePosition l) = lane l := by cases l <;> rfl
  have hmode (x : BaselineMode) : byteField x.position = n1 (match x with
      | .off => 0
      | .auto => 1
      | .manual => 2
      | .capture => 3) := by cases x <;> rfl
  have hnote : noteFields = fun x => match x with
      | .frameOn l => lane l ++ [0#8]
      | .rollCallOf n => 2#8 :: n1 n := by
    funext x
    cases x with
    | frameOn l => exact congrArg (· ++ [0#8]) (hlane l)
    | rollCallOf n => rfl
  have horigin (r : Origin) : originFields r = originParts r := by
    have hkind : byteField (if r.learned then 1 else 0) = fl r.learned := hflag r.learned
    unfold originParts settingsPart windowPart pairsPart pairFields lanePart pipelinePart
    simp only [hkind, hmode, hopt, hnote, hflag, hlane]
    rfl
  have hports : ports = portParts s := by
    unfold portParts lineStatePart bayStatePart
    simp only [hopt, hflag, hlane]
    rfl
  refine ⟨fun hp => ?_, fun hp ho => ?_, fun r hp ho => ?_, fun hp => ?_, fun parts h hp => ?_⟩
  · exact congrArg _ (readOriginEffect_of_no_part hr hp)
  · exact congrArg _ (readOriginEffect_of_free hr hp ho)
  · obtain ⟨bs, hbs, hlength⟩ := originPart_exists hp r
    refine ⟨bs, congrArg _ (readOriginEffect_of_record hr hp ho hbs), ?_, hlength, ?_⟩
    · rw [horigin, getElem?_originParts, hbs]
    · rintro rfl n hn
      cases hbs
      exact windowPart_delivered r hn
  · exact congrArg _ (readPortEffect_of_no_part hr (portPart_eq_none s hp))
  · rw [hports] at h
    obtain ⟨hlt, -⟩ := List.getElem?_eq_some_iff.1 h
    obtain ⟨bs, hbs, hlength⟩ := portPart_exists s (Nat.le_of_lt_succ hlt) hp
    exact ⟨bs, congrArg _ (readPortEffect_of_part hr hbs), (getElem?_portParts _ h).trans hbs, hlength.symm⟩

end Sys2Proof.Machine
end

section
/-! SUPPORT. The part as delivered (R54, R115, R174): State.reset is a cleared state with the factory set loaded. -/

namespace Sys2Proof.Machine

theorem State.reset_cleared : State.reset.Cleared := ⟨rfl, rfl, rfl, rfl, rfl, rfl, rfl⟩

theorem State.reset_no_records {P : Nat × Origin → Prop} : ∀ e ∈ State.reset.origins, P e :=
  List.forall_mem_nil P

/-- The user sets of the part as delivered hold what the factory set holds (log 18), and no save is in flight. -/
theorem storedAll_reset {p : SetContent → Prop} (h : p factorySet) : storedAll p State.reset :=
  ⟨h, h, fun r hr => absurd hr (Option.some_ne_none r).symm⟩

/-- The tables are those of the factory set, and the links have RESTART SEEN raised. -/
theorem State.reset_censusSound : CensusSound State.reset.census where
  register := .load factorySet_sound
  windows := State.reset_no_records
  kinds := State.reset_no_records
  groups := (CensusSound.loaded factorySet_sound State.reset).groups
  links m := by cases m <;> exact ControlLink.reset_sound.raise .restartSeen

theorem State.reset_tablesSound : TablesSound State.reset :=
  (tablesSound_iff _).2 ⟨State.reset_censusSound, storedAll_reset factorySet_sound⟩

theorem State.reset_settingsInRange : SettingsInRange State.reset := by
  obtain ⟨-, hglobals, hgaps⟩ := factorySet_inRange
  exact (settingsInRange_iff _).2
    ⟨⟨State.reset_no_records, hglobals⟩, ⟨hgaps, fun m => by cases m <;> exact List.forall_mem_nil _⟩,
      storedAll_reset factorySet_inRange⟩

/-- Settles O7: a cleared state has the bounds of ports, staging and save; its table of records is empty; and the
factory set is sound and in range. -/
theorem resetStateIsSound : Obligations.ResetStateIsSound :=
  have hclear := State.reset_cleared
  ⟨hclear.queuesBounded, hclear.portsConsistent, hclear.quietHolds, hclear.alertTimed,
    State.reset_no_records, ⟨State.reset_no_records, storedAll_reset (List.forall_mem_nil _)⟩, State.reset_no_records,
    State.reset_tablesSound, hclear.stagingBounded,
    saveInvalidates_of_idle hclear.save, State.reset_settingsInRange⟩

end Sys2Proof.Machine
end

section
/-! SUPPORT. The settings store (R171 to R173) and RESTART (R175): one equation for each answer on a ready
part and for each end of a save. -/

namespace Sys2Proof.Machine

/-! ## SAVE SET and RESTART (R172, R175) -/

section
variable {m : Master} {b : Byte} {s : State}

theorem takeFixed_single (own : List Byte → State) (hr : s.ready = true) :
    takeFixed m 1 (.taken [b]) s own = own [b] := takeFixed_own s m own rfl (by decide) hr

theorem saveSetEffect_of_ready (hr : s.ready = true) : saveSetEffect m (.taken [b]) s =
    if 2 < b.toNat then reply m .badIndex [] s
    else if s.save.isSome then reply m .busy [] s
    else (slotOfNumber b.toNat).elim (reply m .ok [] (reportSave m (.ok .s0) { s with startSet := .s0 }))
      fun u => reply m .ok [] (beginSave m u s) := by
  rw [saveSetEffect, takeFixed_single _ hr]
  simp only [numAt_head]
  cases slotOfNumber b.toNat <;> rfl

theorem saveSetEffect_of_no_set (hr : s.ready = true) (h : 2 < b.toNat) :
    saveSetEffect m (.taken [b]) s = reply m .badIndex [] s :=
  (saveSetEffect_of_ready hr).trans (if_pos h)

theorem saveSetEffect_of_saving (hr : s.ready = true) (h : b.toNat ≤ 2) (hs : s.save ≠ none) :
    saveSetEffect m (.taken [b]) s = reply m .busy [] s := by
  rw [saveSetEffect_of_ready hr, if_neg (not_lt.2 h), if_pos (Option.isSome_iff_ne_none.2 hs)]

theorem saveSetEffect_of_factory (hr : s.ready = true) (h : b.toNat = 0) (hs : s.save = none) :
    saveSetEffect m (.taken [b]) s = reply m .ok [] (reportSave m (.ok .s0) { s with startSet := .s0 }) := by
  rw [saveSetEffect_of_ready hr, if_neg (by omega), hs, h]
  rfl

theorem saveSetEffect_of_slot {u : UserSlot} (hr : s.ready = true) (h : b.toNat = u.number.position)
    (hs : s.save = none) : saveSetEffect m (.taken [b]) s = reply m .ok [] (beginSave m u s) := by
  have hle : u.number.position ≤ 2 := by cases u <;> decide
  rw [saveSetEffect_of_ready hr, if_neg (by omega), hs, h]
  cases u <;> rfl

theorem restartEffect_of_ready (hr : s.ready = true) : restartEffect m (.taken []) s =
    if s.save.isSome then reply m .busy [] s else reply m .ok [] { s with restartArmed := true } :=
  takeFixed_own s m _ rfl (by decide) hr

/-! ## SELECT START SET (R173) -/

theorem selectedSet_of_other {n : Nat} (h : 2 < n) (hn : n ≠ 255) : selectedSet s n = none := by
  unfold selectedSet
  split
  case h_5 => rfl
  all_goals omega

theorem selectEffect_of_none (hr : s.ready = true) (h : selectedSet s b.toNat = none) :
    selectEffect m (.taken [b]) s = reply m .badIndex [] s := by
  rw [selectEffect, takeFixed_single _ hr]
  simp only [numAt_head, h]

theorem selectEffect_of_some {n : SetNo} (hr : s.ready = true) (h : selectedSet s b.toNat = some n) :
    selectEffect m (.taken [b]) s = reply m .ok (storeResults m { s with startSet := n }) { s with startSet := n } := by
  rw [selectEffect, takeFixed_single _ hr]
  simp only [numAt_head, h]

/-- The results byte by byte, the last save result in the last two. -/
theorem storeResults_eq (m : Master) (s : State) : storeResults m s =
    [BitVec.ofNat 8 s.startSet.position, if s.set1.valid then 1#8 else 0#8, if s.set2.valid then 1#8 else 0#8,
      if s.save.isSome then 1#8 else 0#8,
      match s.save with
      | some ⟨.u1, _, _⟩ => 1#8
      | some ⟨.u2, _, _⟩ => 2#8
      | none => 0#8] ++ (s.saveResult.get m).fields := by
  simp only [storeResults, flagField_eq]
  cases s.save with
  | none => rfl
  | some x => obtain ⟨_ | _, r, c⟩ := x <;> rfl

end

/-! ## The end of a save (R172) -/

section
variable {s : State} {x : SaveRecord}

theorem saveCompletionEffect_of_idle (v : Bool) (h : s.save = none) : saveCompletionEffect v s = s := by
  rw [saveCompletionEffect, h]

theorem saveCompletionEffect_of_mismatch (h : s.save = some x) : saveCompletionEffect false s =
    reportSave x.requester (.failed x.slot.number) { s with save := none } := by
  rw [saveCompletionEffect, h]
  rfl

theorem saveCompletionEffect_of_match (h : s.save = some x) : saveCompletionEffect true s =
    reportSave x.requester (.ok x.slot.number)
      { { s with save := none }.setUserSet x.slot ⟨x.snapshot, true, true⟩ with startSet := x.slot.number } := by
  rw [saveCompletionEffect, h]
  rfl

end

/-- Settles O59, command by command, each by the rows of its table. -/
theorem storeCommandsSaveSelectAndRestart : Obligations.StoreCommandsSaveSelectAndRestart := by
  refine ⟨rfl, ?_⟩
  intro m b s k ans flag done snap
  have refused {st : Status} : Host.Outcome.next (reply m st [] s) = ans k st [] s :=
    congrArg _ (reply_without_results ..)
  refine ⟨fun hr => ⟨fun h => ?_, fun h hs => ?_, fun h hs => ?_, fun h hs => ?_, fun h hs => ?_, fun n hn => ?_,
    fun h => ?_, fun hs => ?_, fun hs => ?_⟩, fun v hs => ?_, fun u r c hs => ?_⟩
  · exact (congrArg _ (saveSetEffect_of_no_set hr h)).trans refused
  · exact (congrArg _ (saveSetEffect_of_saving hr h hs)).trans refused
  · exact congrArg _ ((saveSetEffect_of_factory hr h hs).trans (reply_ok_onLink ..))
  · exact congrArg _ ((saveSetEffect_of_slot (u := .u1) hr h hs).trans (reply_without_results ..))
  · exact congrArg _ ((saveSetEffect_of_slot (u := .u2) hr h hs).trans (reply_without_results ..))
  · have hsel : selectedSet s b.toNat = some n := by
      obtain ⟨rfl, rfl⟩ | ⟨rfl, rfl, hv⟩ | ⟨rfl, rfl, hv⟩ | ⟨rfl, rfl⟩ := hn
      · rfl
      · exact if_pos hv
      · exact if_pos hv
      · rfl
    refine ⟨(s.saveResult.get m).fields, congrArg _ ((selectEffect_of_some hr hsel).trans ?_),
      fun h => by rw [h]; rfl, fun n h => by rw [h]; rfl, fun n h => by rw [h]; rfl⟩
    rw [storeResults_eq]
    rfl
  · have hsel : selectedSet s b.toNat = none := by
      obtain ⟨rfl, hv⟩ | ⟨rfl, hv⟩ | ⟨hb, hne⟩ := h
      · exact if_neg (by simp [hv])
      · exact if_neg (by simp [hv])
      · exact selectedSet_of_other hb fun e => hne (BitVec.eq_of_toNat_eq e)
    exact (congrArg _ (selectEffect_of_none hr hsel)).trans refused
  · exact (congrArg _ ((restartEffect_of_ready hr).trans (if_pos (Option.isSome_iff_ne_none.2 hs)))).trans refused
  · exact congrArg _ ((restartEffect_of_ready hr).trans ((if_neg (by simp [hs])).trans (reply_without_results ..)))
  · exact congrArg _ (saveCompletionEffect_of_idle v hs)
  · refine ⟨congrArg _ ((saveCompletionEffect_of_mismatch hs).trans ?_),
      congrArg _ ((saveCompletionEffect_of_match hs).trans ?_)⟩ <;> cases u <;> rfl

end Sys2Proof.Machine
end

section
/-! SUPPORT. Start-up (R174) step by step: the part with its start set loaded, the link-up of a port whose PHY reports
link, and the end of a start quiet of 0. The statement about the kinds of reset (R175). -/

namespace Sys2Proof.Machine

/-! ## Loaded records (R54, R103) -/

section
variable {s : State} {t : List (Nat × StoredOrigin)}

/-- A loaded record shows what it counts as notified: Steady and Silent (R103). -/
theorem caughtUp_load (s : State) (x : StoredOrigin) : caughtUp s x.load = x.load.notif :=
  (Notified.mk.injEq ..).mpr ⟨ite_self _, ite_self _, ite_self _⟩

/-- No loaded record has anything to notify. -/
theorem compareEach_of_loaded (h : s.origins = tabMap StoredOrigin.load t) : ∀ is : List Nat, compareEach is s = s
  | [] => rfl
  | i :: is => by
    have hown : compareAt false i s = s := by
      cases hi : originAt s i with
      | none => exact compareAt_of_free hi
      | some r =>
        have hload : (tabGet t i).map StoredOrigin.load = some r := by
          rw [← tabGet_tabMap, ← h]
          exact hi
        obtain ⟨x, -, rfl⟩ := Option.map_eq_some_iff.1 hload
        rw [compareAt_of_taken hi, if_neg (by simp [caughtUp_load])]
    rw [compareEach, hown, compareEach_of_loaded h is]

theorem compareAll_of_loaded (h : s.origins = tabMap StoredOrigin.load t) : compareAll s = s :=
  compareEach_of_loaded h _

end

/-! ## The start set (R174 steps 1 to 3) -/

section
variable {s : State}

theorem start_of_factory (h : s.startSet = .s0) : startContent s = factorySet ∧ startRejected s = false := by
  rw [startContent, startRejected, h]
  exact ⟨rfl, rfl⟩

theorem start_of_slot {u : UserSlot} (h : s.startSet = u.number) :
    startContent s = (if (s.userSet u).checkHolds then (s.userSet u).content else factorySet) ∧
      startRejected s = !(s.userSet u).checkHolds := by
  rw [startContent, startRejected, h]
  cases u <;> exact ⟨rfl, rfl⟩

/-- The part with its runtime state cleared and both user sets checked. -/
def State.checked (s : State) : State := { clearRuntime s with set1 := s.set1.check, set2 := s.set2.check }

theorem loadStart_of_factory (h : s.startSet = .s0) :
    loadStart (clearRuntime s) = loadSet factorySet s.checked := by
  have hslot : (clearRuntime s).startSet.slot = none := congrArg SetNo.slot h
  simp only [loadStart, hslot]
  rfl

theorem loadStart_of_slot {u : UserSlot} (h : s.startSet = u.number) : loadStart (clearRuntime s) =
    if (s.userSet u).checkHolds then loadSet (s.userSet u).content s.checked
    else raiseBoth .storeRejected (loadSet factorySet s.checked) := by
  have hslot : (clearRuntime s).startSet.slot = some u := (congrArg SetNo.slot h).trans (by cases u <;> rfl)
  simp only [loadStart, hslot]
  cases u <;> rfl

/-- A control link after step 3 of start-up: RESTART SEEN raised, and STORE REJECTED before it where the chosen set was
invalid. -/
def ControlLink.started (rejected : Bool) : ControlLink :=
  (if rejected then ControlLink.reset.raise .storeRejected else ControlLink.reset).raise .restartSeen

theorem ControlLink.started_eq (rejected : Bool) : started rejected =
    { ControlLink.reset with flags := if rejected then 0x0600#16 else 0x0400#16 } := by
  cases rejected <;> rfl

/-- The part after step 3 of start-up: runtime state cleared, the sets checked, the start set loaded. -/
def State.primed (s : State) : State :=
  { State.reset with
    station := s.station, revision := s.revision, tick := s.tick, seconds := s.seconds, restarts := s.restarts,
    quiet := none, origins := tabMap StoredOrigin.load (startContent s).origins, groups := (startContent s).groups,
    globals := (startContent s).globals, bayCfg := (startContent s).bayCfg,
    links := ⟨.started (startRejected s), .started (startRejected s)⟩,
    set1 := s.set1.check, set2 := s.set2.check, startSet := s.startSet, pending := s.pending }

/-- Step 2 loads the chosen set where its check holds, and set 0 otherwise. -/
theorem restartSeen_loadStart (s : State) :
    { raiseBoth .restartSeen (loadStart (clearRuntime s)) with ready := true } = s.primed := by
  have slot {u : UserSlot} (h : s.startSet = u.number) :
      { raiseBoth .restartSeen (loadStart (clearRuntime s)) with ready := true } = s.primed := by
    obtain ⟨hcontent, hrejected⟩ := start_of_slot h
    rw [loadStart_of_slot h, State.primed, hcontent, hrejected]
    cases (s.userSet u).checkHolds <;> rfl
  cases h : s.startSet with
  | s0 =>
    obtain ⟨hcontent, hrejected⟩ := start_of_factory h
    rw [loadStart_of_factory h, State.primed, hcontent, hrejected]
    rfl
  | s1 => exact slot (u := .u1) h
  | s2 => exact slot (u := .u2) h

theorem startUp_eq_primed (phys : Phys) (s : State) : startUp phys s = startQuiet (readPhys phys s.primed) :=
  congrArg (startQuiet <| readPhys phys ·) (restartSeen_loadStart s)

end

/-! ## Ports whose PHYs report link (R16, R115, R118, R174 step 4) -/

/-- A control link after step 4 of start-up: LANE PORT raised too where a line port came up. -/
def ControlLink.informed (rejected : Bool) (phys : Phys) : ControlLink :=
  if phys.lineA = true ∨ phys.lineB = true then (started rejected).raise .lanePort else started rejected

/-- A line port after start-up has read its PHY. -/
def LinePort.started (g : Globals) (up : Bool) : LinePort :=
  if up = false then .reset
  else if g.settleTime = 0 then { LinePort.reset with state := .probing, probe := some g.probeLimit }
  else { LinePort.reset with state := .settling, settle := some g.settleTime }

theorem LinePort.started_down_iff (g : Globals) (up : Bool) : (started g up).state = .down ↔ up = false := by
  unfold started
  split
  · exact iff_of_true rfl ‹_›
  · split <;> exact iff_of_false nofun ‹_›

section
variable {l : Lane} {s : State} {t : List (Nat × StoredOrigin)}

/-- The link-up of a port at start-up: nothing is caught up, for nothing was notified yet. -/
theorem lineUp_of_loaded (hp : s.lines.get l = .reset) (ho : s.origins = tabMap StoredOrigin.load t) : lineUp l s =
    { s with
      lines := s.lines.set l (.started s.globals true)
      links := ⟨s.links.one.raise .lanePort, s.links.two.raise .lanePort⟩ } := by
  by_cases ht : s.globals.settleTime = 0
  · have hport : LinePort.started s.globals true =
        { LinePort.reset with state := .probing, probe := some s.globals.probeLimit } := if_pos ht
    rw [lineUp_of_instant ht, enterProbing_setLine, hp, hport]
    exact compareAll_of_loaded (t := t) ho
  · have hport : LinePort.started s.globals true =
        { LinePort.reset with state := .settling, settle := some s.globals.settleTime } := if_neg ht
    rw [lineUp_of_settling ht, hp, hport]
    rfl

/-- One line port reads its PHY. -/
theorem lineUp_if_of_loaded (up : Bool) (hp : s.lines.get l = .reset) (ho : s.origins = tabMap StoredOrigin.load t) :
    (if up then lineUp l s else s) =
      { s with
        lines := s.lines.set l (.started s.globals up)
        links := if up then ⟨s.links.one.raise .lanePort, s.links.two.raise .lanePort⟩ else s.links } := by
  cases up with
  | true => exact lineUp_of_loaded hp ho
  | false =>
    have hport : s.lines.set l (.started s.globals false) = s.lines := by
      rw [← PerLane.set_get s.lines l, hp, PerLane.set_set]
      rfl
    rw [hport]
    rfl

theorem bayUpEffect_if_of_reset {m : Master} (up : Bool) (hp : s.bays.get m = .reset) :
    (if up then bayUpEffect m s else s) = { s with bays := s.bays.set m { BayPort.reset with up := up } } := by
  cases up with
  | true =>
    rw [← hp]
    rfl
  | false =>
    have hport : s.bays.set m { BayPort.reset with up := false } = s.bays := by
      rw [← PerMaster.set_get s.bays m, hp, PerMaster.set_set]
      rfl
    rw [hport]
    rfl

end

/-- Step 4: each port reads its PHY, and a line port that comes up raises LANE PORT. -/
theorem readPhys_primed (phys : Phys) (s : State) : readPhys phys s.primed =
    { s.primed with
      lines := ⟨.started (startContent s).globals phys.lineA, .started (startContent s).globals phys.lineB⟩
      bays := ⟨{ BayPort.reset with up := phys.bay1 }, { BayPort.reset with up := phys.bay2 }⟩
      links := ⟨.informed (startRejected s) phys, .informed (startRejected s) phys⟩ } := by
  obtain ⟨lineA, lineB, bay1, bay2⟩ := phys
  unfold readPhys
  dsimp only
  rw [lineUp_if_of_loaded (l := .a) lineA rfl rfl, lineUp_if_of_loaded (l := .b) lineB rfl rfl,
    bayUpEffect_if_of_reset (m := .m1) bay1 rfl, bayUpEffect_if_of_reset (m := .m2) bay2 rfl]
  cases lineA with
  | false => cases lineB <;> rfl
  | true =>
    cases lineB with
    | false => rfl
    | true =>
      have htwice : ControlLink.informed (startRejected s) ⟨true, true, bay1, bay2⟩ =
          ((ControlLink.started (startRejected s)).raise .lanePort).raise .lanePort :=
        (ControlLink.raise_raise ..).symm
      rw [htwice]
      rfl

/-! ## The start quiet (R124 to R126, R174 step 5) -/

/-- A line port after the announcement of a start quiet of 0. -/
def LinePort.announced (g : Globals) (l : Lane) (body : List Byte) (up : Bool) : LinePort :=
  if up = false then .reset else { started g true with prot := [laneCopy l 0 .rollCall body] }

theorem LinePort.started_offer (g : Globals) (l : Lane) (body : List Byte) (up : Bool) :
    (started g up).offer (laneCopy l 0 .rollCall body) = announced g l body up := by
  cases up with
  | false => rfl
  | true =>
    have hup : (started g true).state ≠ .down := fun h => nomatch (started_down_iff g true).1 h
    have hempty : (started g true).prot = [] := by
      unfold started
      rw [if_neg nofun]
      split <;> rfl
    rw [laneCopy, offer_rollCall, if_neg hup, hempty]
    rfl

section
variable {u : State}

theorem startQuiet_of_running (h : u.globals.startQuiet ≠ 0) :
    startQuiet u = { u with quiet := some u.globals.startQuiet } := if_neg h

/-- A start quiet of 0 ends with the first roll-call, offered to the ports that came up. -/
theorem startQuiet_of_zero {a b : Bool} (h : u.globals.startQuiet = 0)
    (hlines : u.lines = ⟨.started u.globals a, .started u.globals b⟩) (hstations : knownStations u = [])
    (hseq : u.rollSeq = 0) :
    let body := rollCallBody u.station u.globals.rollInterval []
    startQuiet u = { u with
      lines := ⟨.announced u.globals .a body a, .announced u.globals .b body b⟩
      rollTimer := some u.globals.rollInterval
      rollSeq := if a = true ∨ b = true then 1 else 0 } := by
  intro body
  refine (if_pos h).trans ?_
  have hdown : (u.lines.a.state = .down ∧ u.lines.b.state = .down) ↔ ¬ (a = true ∨ b = true) := by
    rw [hlines, LinePort.started_down_iff, LinePort.started_down_iff]
    simp
  by_cases hup : a = true ∨ b = true
  · rw [announce_of_link (mt hdown.1 (not_not.2 hup)), if_pos hup, offerLanes, hlines, hstations, hseq]
    dsimp only
    rw [LinePort.started_offer, LinePort.started_offer]
    rfl
  · rw [announce_of_down (hdown.2 hup), if_neg hup, ← hseq]
    obtain ⟨ha, hb⟩ := not_or.1 hup
    rw [Bool.not_eq_true] at ha hb
    subst ha hb
    have hquiet : u.lines = ⟨.announced u.globals .a body false, .announced u.globals .b body false⟩ := hlines
    rw [← hquiet]

end

/-! ## Resets (R175) -/

/-- Start-up as steps 4 and 5 leave the part. -/
theorem startUp_eq (phys : Phys) (s : State) :
    let g := (startContent s).globals
    let body := rollCallBody s.station g.rollInterval []
    let line := fun (l : Lane) (up : Bool) =>
      if g.startQuiet = 0 then LinePort.announced g l body up else LinePort.started g up
    startUp phys s = { s.primed with
      lines := ⟨line .a phys.lineA, line .b phys.lineB⟩
      bays := ⟨{ BayPort.reset with up := phys.bay1 }, { BayPort.reset with up := phys.bay2 }⟩
      links := ⟨.informed (startRejected s) phys, .informed (startRejected s) phys⟩
      quiet := if g.startQuiet = 0 then none else some g.startQuiet
      rollTimer := if g.startQuiet = 0 then some g.rollInterval else none
      rollSeq := if g.startQuiet = 0 ∧ (phys.lineA = true ∨ phys.lineB = true) then 1 else 0 } := by
  intro g body line
  rw [startUp_eq_primed, readPhys_primed]
  by_cases hq : g.startQuiet = 0
  · rw [startQuiet_of_zero (a := phys.lineA) (b := phys.lineB) hq rfl rfl rfl]
    simp only [line, hq, true_and]
    rfl
  · rw [startQuiet_of_running hq]
    simp only [line, hq, false_and]
    rfl

/-- Settles O60: every kind of reset is a start-up, from a state whose clock counts alone tell the kinds apart. -/
theorem resetsClearEverythingButStoreAndClock : Obligations.ResetsClearEverythingButStoreAndClock := by
  intro s c flags load body line link after phys
  have hline (l : Lane) (up : Bool) : line l up =
      if c.globals.startQuiet = 0 then LinePort.announced c.globals l body up else LinePort.started c.globals up := by
    cases up with
    | false => exact (ite_self _).symm
    | true => rfl
  have hlink : link phys = .informed (startRejected s) phys := by
    rw [ControlLink.informed, ControlLink.started_eq]
    unfold link
    split <;> rfl
  have hstart (tick : Tick) (seconds restarts : Count) :
      Host.Outcome.next (startUp phys { s with tick := tick, seconds := seconds, restarts := restarts }) =
        after phys tick seconds restarts := by
    rw [startUp_eq]
    simp only [after, hline, hlink]
    rfl
  refine ⟨hstart 0 0 0, hstart 0 0 0, fun ha hs => ?_, fun h => ?_⟩
  · exact (congrArg _ (if_pos ⟨ha, hs⟩)).trans (hstart s.tick s.seconds (s.restarts + 1))
  · exact congrArg _ (if_neg fun ⟨ha, hs⟩ => h.elim (fun hno => nomatch ha.symm.trans hno) (· hs))

end Sys2Proof.Machine
end

section
/-! SUPPORT. The step, by what waits in the queue. -/

namespace Sys2Proof.Machine

/-- Settles O1: the waiting command is the second branch of the step, and taking it leaves the queue's rest. -/
theorem stepRunsTheFrontCommand : Obligations.StepRunsTheFrontCommand := by
  intro c rest s
  unfold step
  rfl

/-- Settles O2: an empty queue meets the first branch of the step and rules out the other. -/
theorem emptyQueueStepIsOneClockTick : Obligations.EmptyQueueStepIsOneClockTick := by
  intro s hempty
  unfold step
  split
  · rfl
  · next hwaiting => exact nomatch hempty.symm.trans hwaiting

end Sys2Proof.Machine
end
